-- ==== Sys2Proof/Word.lean ====
section
/-!
DEFINITION. The number types of the model: the widths spec/ gives, and nothing computed with them.
-/

namespace Sys2Proof

/-- One byte of a message, a parcel or a page. -/
abbrev Byte := BitVec 8

/-- A frame count, 0 to 4095, wrapping from 4095 to 0 (spec 00 "Frame arithmetic"). -/
abbrev FrameCount := BitVec 12

/-- The change count of a map, 0 to 15, wrapping (R24). -/
abbrev ChangeCount := BitVec 4

/-- A stream id, 0 to 63. -/
abbrev StreamId := Fin 64

/-- A station number, 0 to 7: Tarcen stations 0 to 3, consumer stations 4 to 7. -/
abbrev Station := Fin 8

/-- One of the three decode engines. -/
abbrev EngineId := Fin 3

/-- One of the two lanes. -/
abbrev LaneId := Fin 2

/-- A 16-bit ensemble id. -/
abbrev EnsembleId := BitVec 16

/-- One soft decision, a 4-bit two's-complement value; -8 (1000b) is an erasure. -/
abbrev Cell := BitVec 4

/-- The eight cells of a cell word, the first cell in bits 31..28 (R135). -/
abbrev CellWord := BitVec 32

/-- An arbitration field: class, rank, station number (R116). -/
abbrev ArbField := BitVec 16

/-- A local instant, in nanoseconds of the station's own clock (log 1). -/
abbrev Instant := Nat

end Sys2Proof
end

