-- ==== Sys2Proof/Config.lean ====
section
/-!
DEFINITION. What an installation fixes: the strap values that `State.reset` is given, and what a page byte
that nothing has written reads as. Neither is a value of the part (log 7, log 8).
-/

namespace Sys2Proof.Config

/-- The station number strapped in `State.reset`. DESIGN CHOICE, unsafe (log 7): the spec gives no strap value. -/
def resetStation : Fin 4 := 0

/-- LANEMODE in `State.reset`. DESIGN CHOICE, unsafe (log 7). -/
def resetSingleLane : Bool := false

/-- LTERM in `State.reset`. DESIGN CHOICE, unsafe (log 7). -/
def resetTermination : Bool := false

/-- What a byte of page memory that nothing has written reads as. DESIGN CHOICE, unsafe (log 8): no rule reads one. -/
def blankPageByte : Byte := 0

end Sys2Proof.Config
end

