-- ==== Sys2Proof/Syntax.lean ====
section
/-!
DEFINITION. The commands of the Tarcen 340: one constructor of `Instr` per row of spec/opcode_table.json, with
the operands each step takes from outside the part. Every command carries the local instant at which it is taken
(log 1). What the two inner decoders find is an operand (log 5, log 6), since spec/ gives them only by effect.
-/

namespace Sys2Proof

/-- The sign of the offset an equaliser auto-zero removed (R3). -/
inductive Polarity where
  | positive
  | negative
  deriving DecidableEq, Repr

/-- The area mark of a cell word (R2, R135). -/
inductive Area where
  | payload
  | control
  deriving DecidableEq, Repr

/-- The kind of a stream: UNIT streams carry variable-length units, PLAIN streams do not. -/
inductive StreamKind where
  | unit
  | plain
  deriving DecidableEq, Repr

/-- The strap pins as sampled at the rising edge of RESET_N (R173). -/
structure Straps where
  /-- STA1, STA0: the station number 0 to 3 -/
  station : Fin 4
  /-- LANEMODE: set in single-lane mode -/
  singleLane : Bool
  /-- LTERM: the line termination is connected -/
  termination : Bool
  deriving DecidableEq, Repr

/-- The fields of a map entry before any limit is tested (R22): what a STREAM record or a MAP notice carries. -/
structure RawEntry where
  id : Nat
  start : Nat
  grains : Nat
  profile : Nat
  /-- none where the record names neither UNIT nor PLAIN -/
  kind : Option StreamKind
  deriving DecidableEq, Repr

/-- The fields of a FRAME record (R21). The last four are present when the change-pending flag is set. -/
structure FrameRecord where
  count : FrameCount
  ensemble : EnsembleId
  changeCount : ChangeCount
  entryCount : Nat
  pending : Bool
  changeFrame : FrameCount
  nextChangeCount : ChangeCount
  nextEntryCount : Nat
  deriving DecidableEq, Repr

/-- What the control decoder makes of one control block (R20). The byte layout of a control record is in no file
of spec/, so the record comes as its fields (log 6). -/
inductive ControlBlock where
  /-- the check word does not match -/
  | badCheck
  /-- the check passes and the first byte names no kind -/
  | unknownKind
  | padding
  | frame (r : FrameRecord)
  | stream (tag : ChangeCount) (e : RawEntry)
  deriving DecidableEq, Repr

/-- What an engine's inner decoder found in one job (R70, R84, R86): the decoded code bits in order of the cells
(true is the bit 1), the parcel bytes, and the trellis state it ended in. -/
structure Decoded where
  code : List Bool
  bytes : List Byte
  metrics : List Nat
  deriving DecidableEq, Repr

/-- The header of a link message, less its kind code (R134). -/
structure Header where
  source : Byte
  stream : Byte
  frame : BitVec 16
  bodyLength : BitVec 16
  flags : Byte
  attempt : Byte
  mode : Byte
  sync : Byte
  fault : Byte
  deriving DecidableEq, Repr

/-- A message on the ensemble link as this station received it: the instant of its start bit, its arbitration
field, its header and its body bytes (R115, R134). -/
structure LinkMessage where
  start : Instant
  arb : ArbField
  header : Header
  body : List Byte
  deriving DecidableEq, Repr

/-- A completed message of a Tarcen kind: the one this station has on the line itself, or one heard (R119, R132). -/
inductive Incoming where
  /-- the message of this station's own attempt, completed -/
  | own
  /-- a message this station did not send -/
  | heard (m : LinkMessage)
  deriving DecidableEq, Repr

/-- The two ways in which a second station with this station's number is found (R123). -/
inductive DuplicateSource where
  | attempt
  | hearing
  deriving DecidableEq, Repr

/-- The commands: one constructor per row of spec/opcode_table.json. `t` is the local instant of the event. -/
inductive Instr where
  /-- RESET_N is taken low (R175) -/
  | pinResetAssert (t : Instant)
  /-- rising edge of RESET_N (R174) -/
  | pinResetRelease (t : Instant) (straps : Straps)
  /-- a lane's equaliser auto-zero completes (R3) -/
  | equaliserAutoZero (t : Instant) (lane : LaneId) (pol : Polarity)
  /-- a lane's lock detector reports lock (R3) -/
  | lockReport (t : Instant) (lane : LaneId)
  /-- a lane's ACQUIRE time-out expires (R3) -/
  | acquireTimeout (t : Instant) (lane : LaneId)
  /-- a lane in TRACK finds the word boundary (R4) -/
  | wordBoundaryFound (t : Instant) (lane : LaneId)
  /-- a lane's lock detector reports loss of lock (R5) -/
  | lossOfLock (t : Instant) (lane : LaneId)
  /-- a lane's one-shot tune ends (R5) -/
  | oneShotTuneEnd (t : Instant) (lane : LaneId)
  /-- a cell word arrives (R1); `block` is what the control decoder finds if this word completes a control block -/
  | cellWord (t : Instant) (lane : LaneId) (area : Area) (cells : CellWord) (block : ControlBlock)
  /-- a good frame-start marker arrives (R11) -/
  | frameStartMarker (t : Instant) (lane : LaneId)
  /-- a good front-end status word arrives (R6) -/
  | frontEndStatus (t : Instant) (lane : LaneId) (present : Bool) (quality : Byte)
  /-- a good idle word arrives (R1) -/
  | idle (t : Instant) (lane : LaneId)
  /-- a corrupt control word arrives (R1) -/
  | corruptControlWord (t : Instant) (lane : LaneId)
  /-- the corrupt control word that brings the run to 4 arrives (R5) -/
  | fourthCorruptControlWord (t : Instant) (lane : LaneId)
  /-- a marker window closes with no arrival (R14) -/
  | markerWindowClose (t : Instant)
  /-- the filing instant of a flywheel frame, or of a frame ended by R12, comes (R14) -/
  | flywheelPayloadEnd (t : Instant)
  /-- the window after flywheel count 42 opens (R17) -/
  | entryToLost (t : Instant)
  /-- the pending release instant of a logical frame comes (R19) -/
  | releaseInstant (t : Instant) (frame : FrameCount)
  /-- the save, load or transfer into an engine completes (R68) -/
  | contextMoveComplete (t : Instant) (engine : EngineId)
  /-- an engine ends decoding (R70) -/
  | decodeEnd (t : Instant) (engine : EngineId) (found : Decoded)
  /-- a WAITING record's offer instant comes (R103) -/
  | offerInstant (t : Instant) (stream : StreamId) (frame : FrameCount)
  /-- an unusable HELD record's discard instant comes (R107) -/
  | discardInstant (t : Instant) (stream : StreamId) (frame : FrameCount)
  /-- the status timer expires (R167) -/
  | statusTimer (t : Instant)
  /-- the notice hold-off expires (R41) -/
  | noticeHoldOff (t : Instant)
  /-- the deadline of a stream's cursor frame expires (R162) -/
  | deadline (t : Instant) (stream : StreamId)
  /-- the line becomes free; `rivals` are the arbitration fields of the other stations that contend (R117) -/
  | contention (t : Instant) (rivals : List ArbField)
  /-- this station's won attempt reads its end slot; `rejected` where it is dominant (R119) -/
  | attemptEnd (t : Instant) (rejected : Bool)
  /-- the end flag of a message comes; `bits` are those read since the start bit, the end flag included (R118) -/
  | reject (t : Instant) (start : Instant) (bits : List Bool)
  /-- a second station with this station's number is found (R123) -/
  | duplicateEvent (t : Instant) (how : DuplicateSource)
  /-- the line has been dominant for 2 ms (R122) -/
  | lineStuck (t : Instant)
  /-- the line goes recessive after a stuck hold (R122) -/
  | lineGoesRecessive (t : Instant)
  /-- the FAULT recovery timer expires (R122) -/
  | recoveryTimer (t : Instant)
  /-- the join timer expires (R120) -/
  | joinTimer (t : Instant)
  /-- a peer's aging timer expires (R146) -/
  | peerAging (t : Instant) (peer : Station)
  /-- a PARCEL completes (R131) -/
  | parcel (t : Instant) (m : Incoming)
  /-- a GAP completes (R131) -/
  | gap (t : Instant) (m : Incoming)
  /-- a STATUS completes (R145) -/
  | status (t : Instant) (m : Incoming)
  /-- a MAP notice completes (R43) -/
  | map (t : Instant) (m : Incoming)
  /-- a TRACE completes (R133) -/
  | trace (t : Instant) (m : Incoming)
  /-- a DRAINED completes (R178) -/
  | drained (t : Instant) (m : Incoming)
  /-- a QUIESCED completes (R181) -/
  | quiesced (t : Instant) (m : Incoming)
  /-- a SUBSCRIBE completes (R137) -/
  | subscribe (t : Instant) (m : LinkMessage)
  /-- a RELEASE completes (R138) -/
  | release (t : Instant) (m : LinkMessage)
  /-- an ENSEMBLE_CHANGE completes (R177) -/
  | ensembleChange (t : Instant) (m : LinkMessage)
  /-- a RESTART completes (R179) -/
  | restart (t : Instant) (m : LinkMessage)
  /-- a QUIESCE completes (R180) -/
  | quiesce (t : Instant) (m : LinkMessage)
  /-- a RESUME completes (R182) -/
  | resume (t : Instant) (m : LinkMessage)
  /-- a complete message whose kind code names no kind (R132) -/
  | unknownKindMessage (t : Instant) (code : Byte) (m : LinkMessage)
  deriving DecidableEq, Repr

end Sys2Proof
end

