-- ==== Sys2Proof/Machine/State.lean ====
section
/-!
DEFINITION. The state of one Tarcen 340, block by block, as plain data, and `State.reset`: the part at the end of
pin reset (R174) with the strap values of Config. INVENTORY.md lists every field with the rule that names it.
-/

namespace Sys2Proof.Machine

/-- A fixed number of like things: lanes, slots, engines, contexts, peers. -/
abbrev Table (n : Nat) (α : Type) := Vector α n

/-! ### Front-end port (R3 to R7) -/

inductive LaneState where
  | off
  | acquire
  | track
  | aligned
  deriving DecidableEq, Repr

/-- The two stages of ACQUIRE (R3). -/
inductive AcquireStage where
  | autoZero
  | frequency
  deriving DecidableEq, Repr

inductive TuneMode where
  | none
  | oneShot
  | continuous
  deriving DecidableEq, Repr

/-- A lane record (section 1.3), with the two timers of ACQUIRE and the word count of the one-shot tune. -/
structure Lane where
  state : LaneState
  stage : AcquireStage
  /-- the instant at which the auto-zero completes, while it runs (R3) -/
  autoZeroEnd : Option Instant
  /-- the instant of the ACQUIRE time-out, while in ACQUIRE (R3) -/
  timeout : Option Instant
  polarity : Option Polarity
  tune : TuneMode
  /-- words received since entry to ALIGNED, counted to 256 (R5) -/
  tuneWords : Nat
  corruptRun : Nat
  quality : Byte
  deriving DecidableEq, Repr

/-! ### Frame tracker (R8 to R19) -/

inductive SyncState where
  | search
  | provisional
  | locked
  | holdover
  | lost
  deriving DecidableEq, Repr

/-- How the frame in progress came about: received from a marker, received as a HOLDOVER trial frame (R15), named
by the flywheel (R14), or a frame begun at a marker whose reception an event of R12 ended. -/
inductive FrameKind where
  | reception
  | trial
  | flywheel
  | ended
  deriving DecidableEq, Repr

/-- The frame in progress (R8). -/
structure Frame where
  /-- the instant of its marker; of a flywheel frame, the closing of its window, T + 2 ms (R14, R15) -/
  begun : Instant
  /-- its count is settled (R10) -/
  named : Bool
  kind : FrameKind
  /-- a trial frame that will be filed ERASED (R15) -/
  failed : Bool
  payloadWords : Nat
  payloadEnded : Bool
  /-- the instant of its payload end, of a flywheel frame or one ended by R12 -/
  fileAt : Option Instant
  controlEnded : Bool
  /-- its FRAME record has been decoded (R8) -/
  recordSeen : Bool
  deriving DecidableEq, Repr

/-- Which frame lane 1's latest marker is paired with in two-lane mode (R8). -/
inductive Pairing where
  | none
  | current
  | next
  deriving DecidableEq, Repr

/-- The control area on its way to the control decoder (R8). -/
structure ControlPath where
  pairing : Pairing
  /-- lane 1 has delivered a marker since it last entered ALIGNED -/
  marked : Bool
  /-- control cell words counted, 0 to 384 -/
  words : Nat
  /-- the words of the control block in progress, in order -/
  block : List CellWord
  /-- words waiting for their paired frame, each with what the control decoder finds if it completes a block; none for
  one received in SEARCH or LOST, which is discarded but keeps its place (R8) -/
  held : List (Option (CellWord × ControlBlock))
  deriving DecidableEq, Repr

structure Tracker where
  sync : SyncState
  /-- the local frame count -/
  count : FrameCount
  /-- the expected ensemble id, none while UNSET -/
  expected : Option EnsembleId
  flywheel : Nat
  /-- the expected instant T of the next marker -/
  marker : Option Instant
  frame : Option Frame
  payloadOffset : Nat
  /-- pending release instants, in the order in which they were fixed (R19) -/
  releases : List (FrameCount × Instant)
  control : ControlPath
  /-- an event of R12 came after the payload end of the frame in progress: it acts on the next frame (R12) -/
  nextEnded : Bool
  /-- the count of the last frame start issued, none before the first (R18, R39) -/
  lastStart : Option FrameCount
  deriving DecidableEq, Repr

/-! ### Map unit (R23 to R44) -/

inductive MapState where
  | none
  | assembling
  | complete
  | adopted
  deriving DecidableEq, Repr

inductive MapSource where
  | own
  | peer
  deriving DecidableEq, Repr

/-- A valid entry position of a map (section 2.3). -/
structure MapEntry where
  id : StreamId
  start : Nat
  grains : Nat
  profile : Nat
  kind : StreamKind
  /-- the own mark -/
  own : Bool
  deriving DecidableEq, Repr

/-- A multiplex map: header and valid entries in ascending stream id. -/
structure MuxMap where
  state : MapState
  count : ChangeCount
  entryCount : Nat
  source : MapSource
  entries : List MapEntry
  /-- of the next map, while it is not NONE -/
  changeFrame : FrameCount
  /-- the deferred-from frame (R32) -/
  deferred : Option FrameCount
  deriving DecidableEq, Repr

/-- The checkpoint marker (R33): change frame and the streams copied, ascending. -/
structure Marker where
  changeFrame : FrameCount
  streams : List StreamId
  deriving DecidableEq, Repr

structure MapUnit where
  current : MuxMap
  next : MuxMap
  /-- the outgoing map; its changeFrame is the frame at which it gave way (R39) -/
  outgoing : Option MuxMap
  marker : Option Marker
  wantCurrent : Bool
  wantNext : Bool
  /-- the instant at which the notice hold-off expires, while it runs (R41) -/
  holdOff : Option Instant
  deriving DecidableEq, Repr

/-! ### Interleave memory (R45 to R56) -/

structure Slot where
  /-- none is the tag EMPTY -/
  tag : Option FrameCount
  received : Bool
  whole : Bool
  /-- the 7,200 payload cell words of a RECEIVED slot, in payload order; none otherwise -/
  cells : List CellWord
  deriving DecidableEq, Repr

structure Ilm where
  slots : Table 8 Slot
  /-- none while the fill area is idle; the words gathered, newest first, while it is open -/
  fill : Option (List CellWord)
  fillRun : Nat
  deriving DecidableEq, Repr

/-! ### Job scheduler, engines, context table (R57 to R83) -/

inductive JobClass where
  | foreground
  | background
  deriving DecidableEq, Repr

inductive JobState where
  | waiting
  | ready
  | running
  | finishing
  deriving DecidableEq, Repr

inductive ContextSource where
  | warmHeld
  | warmTable
  | transferred
  | cold
  deriving DecidableEq, Repr

/-- A job of the job table (R57). `engine`, `source` and `started` are fixed at issue. -/
structure Job where
  stream : StreamId
  frame : FrameCount
  changeCount : ChangeCount
  start : Nat
  grains : Nat
  profile : Nat
  kind : StreamKind
  cls : JobClass
  speculative : Bool
  discard : Bool
  release : Instant
  state : JobState
  engine : EngineId
  source : ContextSource
  started : Instant
  /-- R79 put off the re-creation of this discarded job's stream-frame -/
  putOff : Bool
  deriving DecidableEq, Repr

/-- What a BUSY engine is doing (R68, R70). -/
inductive Phase where
  | idle
  /-- saving its held context to the table, until the instant -/
  | saving (till : Instant)
  /-- giving by transfer to an engine, not begun -/
  | sendWait (taker : EngineId)
  /-- giving by transfer, begun; the taking engine holds the instant -/
  | sending (taker : EngineId)
  /-- has given; waits to take by transfer from an engine -/
  | recvWait (giver : EngineId)
  /-- taking by transfer, until the instant -/
  | receiving (giver : EngineId) (till : Instant)
  /-- waits for the save of its context by an engine of an earlier round -/
  | loadWait (saver : EngineId)
  /-- loading its context from the table, until the instant -/
  | loading (till : Instant)
  /-- decoding, until the instant -/
  | decoding (till : Instant)
  deriving DecidableEq, Repr

structure Engine where
  /-- the stream and frame of its job; none while IDLE -/
  job : Option (StreamId × FrameCount)
  /-- the stream whose context it holds -/
  held : Option StreamId
  dirty : Bool
  phase : Phase
  /-- the cells of the job's span read, while it decodes (R52) -/
  span : List Cell
  /-- RESUME has taken its stream's context from it: nothing of it is kept (R82) -/
  dropAtEnd : Bool
  deriving DecidableEq, Repr

inductive Location where
  | table
  | engine (e : EngineId)
  deriving DecidableEq, Repr

/-- A checkpoint copy (R75). -/
structure ContextCopy where
  next : FrameCount
  metrics : List Nat
  warm : Bool
  deriving DecidableEq, Repr

inductive Checkpoint where
  | none
  | pending
  | held (c : ContextCopy)
  /-- a restore waits for the stream's running job; `reopened` where a new request was opened meanwhile (R75, R78) -/
  | restoring (c : ContextCopy) (reopened : Bool)
  deriving DecidableEq, Repr

/-- A stream context (R67). -/
structure Context where
  next : FrameCount
  metrics : List Nat
  warm : Bool
  location : Location
  checkpoint : Checkpoint
  deriving DecidableEq, Repr

structure Scheduler where
  /-- in creation order -/
  jobs : List Job
  /-- the arrival record, oldest first -/
  arrivals : List (FrameCount × Instant)
  engines : Table 3 Engine
  contexts : Table 64 Context
  deriving DecidableEq, Repr

/-! ### Parcel store (R99 to R113) -/

/-- A byte memory: address and byte pairs, addresses rising, none equal to what an unlisted address reads as. -/
abbrev Memory := List Host.Cell

inductive RecordState where
  | waiting
  | queued
  | held
  | specHeld
  deriving DecidableEq, Repr

/-- A parcel record (R100). -/
structure ParcelRecord where
  stream : StreamId
  frame : FrameCount
  changeCount : ChangeCount
  kind : StreamKind
  payloadLength : Nat
  score : Nat
  pass : Bool
  erased : Bool
  saturated : Bool
  cold : Bool
  speculative : Bool
  markerOverflow : Bool
  markers : List Nat
  pages : List (Fin 256)
  release : Instant
  state : RecordState
  /-- the offer instant, of a usable record that is not SPEC_HELD; it runs while the record is WAITING (R100, R103) -/
  offerAt : Option Instant
  /-- the discard instant, of an unusable record that is not SPEC_HELD -/
  discardAt : Option Instant
  deriving DecidableEq, Repr

structure Store where
  /-- in the order in which they were made -/
  records : List ParcelRecord
  freePages : List (Fin 256)
  pageMem : Memory
  deriving DecidableEq, Repr

/-! ### Link controller (R114 to R135) -/

inductive LinkState where
  | offline
  | listening
  | joined
  | fault
  deriving DecidableEq, Repr

inductive FaultRecord where
  | none
  | stuck
  | duplicate
  deriving DecidableEq, Repr

/-- The message kinds (R134). -/
inductive MsgKind where
  | parcel
  | gap
  | status
  | map
  | trace
  | drained
  | quiesced
  | subscribe
  | release
  | ensembleChange
  | restart
  | quiesce
  | resume
  deriving DecidableEq, Repr

inductive GapReason where
  | notDecoded
  | unusable
  | late
  deriving DecidableEq, Repr

/-- The results of a unit walk (R93); a carry-out of none is UNKNOWN. -/
structure Walk where
  units : List Nat
  carryOut : Option Nat
  resync : Bool
  overflow : Bool
  deriving DecidableEq, Repr

/-- The content of a TRACE (R171). -/
structure TraceBody where
  engine : EngineId
  score : Nat
  pass : Bool
  erased : Bool
  saturated : Bool
  cold : Bool
  markerOverflow : Bool
  source : ContextSource
  decodeTime : Nat
  deriving DecidableEq, Repr

/-- The content of a MAP notice (R41): the raw entries are as carried. -/
structure MapNotice where
  isNext : Bool
  count : ChangeCount
  entryCount : Nat
  changeFrame : Option FrameCount
  entries : List RawEntry
  deriving DecidableEq, Repr

/-- The body reference of a queue entry (R125). -/
inductive EntryBody where
  /-- the parcel record of the entry's stream-frame, with the carry-in walked with and the walk's results -/
  | parcel (carryIn : Option Nat) (walk : Walk)
  | gap (reason : GapReason)
  /-- the body is supplied at each attempt (R168) -/
  | status
  | map (n : MapNotice)
  | trace (b : TraceBody)
  | empty
  deriving DecidableEq, Repr

/-- An entry of the transmit queue (R125); its owner is a function of its kind. -/
structure Entry where
  uid : Nat
  kind : MsgKind
  stream : Option StreamId
  frame : Option FrameCount
  arb : ArbField
  attempts : Nat
  body : EntryBody
  /-- rewritten in place since its attempt was taken (R129) -/
  rewritten : Bool
  deriving DecidableEq, Repr

/-- The message taken whole at a free instant (R117), with the queue entry it was taken from. -/
structure Attempt where
  uid : Nat
  /-- the free instant at which it was taken, that of its start bit (R117) -/
  start : Instant
  kind : MsgKind
  stream : Option StreamId
  frame : Option FrameCount
  arb : ArbField
  header : Header
  body : List Byte
  /-- the carry-out field of a PARCEL, as a number or UNKNOWN -/
  carryOut : Option Nat
  deriving DecidableEq, Repr

/-- What a receiver drives in the end slot (R118). -/
inductive EndSlot where
  | recessive
  | reject
  deriving DecidableEq, Repr

structure Link where
  state : LinkState
  /-- in ascending arbitration field, equal fields in the order of queuing -/
  queue : List Entry
  attempt : Option Attempt
  joinTimer : Option Instant
  recoveryTimer : Option Instant
  /-- the line has been found stuck and has not gone recessive since -/
  stuck : Bool
  permanent : Bool
  faultRecord : FaultRecord
  duplicateAt : Option Instant
  /-- messages whose start bit came before this instant are not received (R118) -/
  receivingFrom : Instant
  /-- what this station drove in the last end slot it judged -/
  endSlot : EndSlot
  nextUid : Nat
  deriving DecidableEq, Repr

/-! ### Subscription unit (R136 to R152) -/

inductive EffectiveClass where
  | foreground
  | background
  | demoted
  deriving DecidableEq, Repr

/-- A subscription (R136). The consumer field of a peer's list may hold any byte (R151). -/
structure Subscription where
  stream : StreamId
  consumer : Byte
  requested : JobClass
  effective : EffectiveClass
  trace : Bool
  units : Bool
  deriving DecidableEq, Repr

/-- A position of the peer table (R144). -/
structure Peer where
  isPresent : Bool
  sync : SyncState
  count : FrameCount
  curState : MapState
  curCount : ChangeCount
  curEntries : Nat
  nextState : MapState
  nextCount : ChangeCount
  nextEntries : Nat
  changeFrame : FrameCount
  claims : List StreamId
  subs : List Subscription
  aging : Option Instant
  deriving DecidableEq, Repr

structure Subs where
  table : List Subscription
  foregroundLoad : Nat
  /-- ascending -/
  claims : List StreamId
  claimLoad : Nat
  /-- the adoption mark is ARMED -/
  armed : Bool
  /-- a frame start has come since the conditions of R147 hold (R149) -/
  claimsOpen : Bool
  peers : Table 8 Peer
  deriving DecidableEq, Repr

/-! ### Delivery unit (R153 to R166) -/

inductive DeadlineState where
  | none
  | armed
  | running (at_ : Instant)
  | lapsed
  deriving DecidableEq, Repr

/-- A cursor entry (R153): a cursor of none is UNSET, a carry-in of none is UNKNOWN. -/
structure Cursor where
  stream : StreamId
  cursor : Option FrameCount
  carryIn : Option Nat
  absent : Bool
  deadline : DeadlineState
  deriving DecidableEq, Repr

structure Delivery where
  /-- in ascending stream id -/
  cursors : List Cursor
  /-- the release list, oldest first (R154) -/
  releaseList : List (FrameCount × Instant)
  deriving DecidableEq, Repr

/-! ### Mode controller (R167 to R176) -/

inductive Mode where
  | running
  | draining
  | restarting
  | quiescing
  | quiesced
  deriving DecidableEq, Repr

/-- The seven station counters, 16-bit and saturating (R170). -/
structure Counters where
  controlErrors : BitVec 16
  lateParcels : BitVec 16
  storeDrops : BitVec 16
  queueDrops : BitVec 16
  traceDrops : BitVec 16
  linkDrops : BitVec 16
  slips : BitVec 16
  deriving DecidableEq, Repr

structure Control where
  mode : Mode
  returnMode : Option Mode
  counters : Counters
  statusTimer : Option Instant
  straps : Straps
  deriving DecidableEq, Repr

/-! ### The part -/

/-- One Tarcen 340 and the queue of commands that wait for it. -/
structure State where
  /-- local time (log 1) -/
  now : Instant
  /-- RESET_N is low (R174) -/
  held : Bool
  lanes : Table 2 Lane
  ftr : Tracker
  maps : MapUnit
  ilm : Ilm
  jsc : Scheduler
  pst : Store
  lnk : Link
  sub : Subs
  dlv : Delivery
  mod : Control
  /-- the commands that wait, first in first out -/
  pending : List Instr
  deriving DecidableEq, Repr

/-- No command of this part stops it: the spec gives each of its events an effect or none (INVENTORY.md "Faults"),
so no meaning raises a fault and the type is empty. Safe: nothing is cut short. -/
inductive Fault where
  deriving DecidableEq, Repr

/-- Reasons to refuse a command. No meaning refuses one. -/
inductive Refusal where
  /-- raised by `exec` alone, for a command that has no meaning yet (none at present); safe -/
  | notModelled (mnemonic : String)
  deriving DecidableEq, Repr

/-! ### Values at the end of pin reset -/

/-- A lane held OFF (R7). -/
def Lane.held : Lane :=
  { state := .off, stage := .autoZero, autoZeroEnd := none, timeout := none, polarity := none, tune := .none,
    tuneWords := 0, corruptRun := 0, quality := 0 }

/-- A lane that has entered ACQUIRE at the end of pin reset (R3, R7): auto-zero 0.25 ms, time-out 2 ms. -/
def Lane.enabled (now : Instant) : Lane :=
  { Lane.held with state := .acquire, autoZeroEnd := some (now + 250000), timeout := some (now + 2000000) }

/-- The tracker at the end of pin reset (R9): payload offset 70.0 ms. -/
def Tracker.reset : Tracker :=
  { sync := .search, count := 0, expected := none, flywheel := 0, marker := none, frame := none,
    payloadOffset := 70000000, releases := [],
    control := { pairing := .none, marked := false, words := 0, block := [], held := [] },
    nextEnded := false, lastStart := none }

/-- A map in state NONE (R25). -/
def MuxMap.empty : MuxMap :=
  { state := .none, count := 0, entryCount := 0, source := .own, entries := [], changeFrame := 0, deferred := none }

/-- The map unit at the end of pin reset (R25). -/
def MapUnit.reset : MapUnit :=
  { current := .empty, next := .empty, outgoing := none, marker := none, wantCurrent := false, wantNext := false,
    holdOff := none }

/-- A slot tagged EMPTY (R45). -/
def Slot.empty : Slot := { tag := none, received := false, whole := false, cells := [] }

/-- The interleave memory at the end of pin reset (R45). -/
def Ilm.reset : Ilm := { slots := .replicate 8 .empty, fill := none, fillRun := 0 }

/-- An IDLE engine that holds nothing (R64). -/
def Engine.reset : Engine :=
  { job := none, held := none, dirty := false, phase := .idle, span := [], dropAtEnd := false }

/-- A context at the end of pin reset (R67). Its metrics are not used while it is COLD (log 7). -/
def Context.reset : Context :=
  { next := 0, metrics := List.replicate 64 0, warm := false, location := .table, checkpoint := .none }

/-- Job table, engines and context table at the end of pin reset (R57, R64, R67). -/
def Scheduler.reset : Scheduler :=
  { jobs := [], arrivals := [], engines := .replicate 3 .reset, contexts := .replicate 64 .reset }

/-- The parcel store at the end of pin reset (R99, R100). -/
def Store.reset : Store := { records := [], freePages := List.finRange 256, pageMem := [] }

/-- The link controller at the end of pin reset (R120): LISTENING, join timer 216 ms. -/
def Link.reset (now : Instant) : Link :=
  { state := .listening, queue := [], attempt := none, joinTimer := some (now + 216000000), recoveryTimer := none,
    stuck := false, permanent := false, faultRecord := .none, duplicateAt := none, receivingFrom := now,
    endSlot := .recessive, nextUid := 0 }

/-- An absent position of the peer table (R144). -/
def Peer.absent : Peer :=
  { isPresent := false, sync := .search, count := 0, curState := .none, curCount := 0, curEntries := 0,
    nextState := .none, nextCount := 0, nextEntries := 0, changeFrame := 0, claims := [], subs := [], aging := none }

/-- The subscription unit at the end of pin reset (R136, R144). -/
def Subs.reset : Subs :=
  { table := [], foregroundLoad := 0, claims := [], claimLoad := 0, armed := true, claimsOpen := false,
    peers := .replicate 8 .absent }

/-- The delivery unit at the end of pin reset (R153, R154). -/
def Delivery.reset : Delivery := { cursors := [], releaseList := [] }

/-- All counters 0 (R170). -/
def Counters.zero : Counters :=
  { controlErrors := 0, lateParcels := 0, storeDrops := 0, queueDrops := 0, traceDrops := 0, linkDrops := 0, slips := 0 }

/-- The mode controller at the end of pin reset (R174): RUNNING, counters 0, status timer 72 ms. -/
def Control.reset (now : Instant) (straps : Straps) : Control :=
  { mode := .running, returnMode := none, counters := .zero, statusTimer := some (now + 72000000), straps := straps }

/-- The part right after the rising edge of RESET_N at `now` with the straps sampled (R174): every block at the
value its own chapter gives for the end of pin reset. Lane 1 is OFF in single-lane mode (R2, R7). -/
def State.afterPinReset (now : Instant) (straps : Straps) (pending : List Instr) : State :=
  { now := now, held := false,
    lanes := #v[Lane.enabled now, if straps.singleLane then Lane.held else Lane.enabled now],
    ftr := .reset, maps := .reset, ilm := .reset, jsc := .reset, pst := .reset, lnk := .reset now, sub := .reset,
    dlv := .reset, mod := .reset now straps, pending := pending }

/-- The part right after reset, with the straps of Config and no command waiting (log 7). -/
def State.reset : State :=
  State.afterPinReset 0
    { station := Config.resetStation, singleLane := Config.resetSingleLane, termination := Config.resetTermination } []

end Sys2Proof.Machine
end

