-- ==== Sys2Proof/Machine/Basics.lean ====
section
/-!
DEFINITION. Durations, frame arithmetic, tables, ordered lists, saturating counters, page memory: the plain
operations that every block's rules are written with.
-/

namespace Sys2Proof.Machine

/-! ### Durations, in nanoseconds -/

/-- The frame period, 72 ms (spec 00). -/
abbrev framePeriod : Nat := 72000000

/-- Half the marker window: it runs from T - 2 ms to T + 2 ms (R11). -/
abbrev windowHalf : Nat := 2000000

/-- The equaliser auto-zero, 0.25 ms (R3). -/
abbrev autoZeroTime : Nat := 250000

/-- The ACQUIRE time-out, 2 ms (R3). -/
abbrev acquireTime : Nat := 2000000

/-- A save or a load of a context, 0.2 ms (R68). -/
abbrev tableMoveTime : Nat := 200000

/-- A transfer of a context between engines, 0.3 ms (R68). -/
abbrev transferTime : Nat := 300000

/-- The engine time of one grain, 0.45 ms (R70). -/
abbrev grainTime : Nat := 450000

/-- The unit of TRACE decode times, 10 µs (R71). -/
abbrev traceUnit : Nat := 10000

/-- One step of the offer delay, 50 µs (R89). -/
abbrev offerStep : Nat := 50000

/-- The deadline of a stream-frame after its release instant, 60 ms (R161). -/
abbrev deadlineTime : Nat := 60000000

/-- The discard instant of an unusable copy after its release instant, 72 ms (R107). -/
abbrev discardTime : Nat := 72000000

/-- Join timer and peer aging timer, 3 frame periods (R120, R145). -/
abbrev joinTime : Nat := 216000000

/-- The notice hold-off, 4 frame periods (R41). -/
abbrev holdOffTime : Nat := 288000000

/-- The FAULT recovery timer, 10 ms (R122). -/
abbrev recoveryTime : Nat := 10000000

/-- The span in which a second DUPLICATE event makes a FAULT permanent, 10 s (R123). -/
abbrev duplicateSpan : Nat := 10000000000

/-- Grains of decode load a station can carry (R140, R142). -/
abbrev loadLimit : Nat := 480

/-! ### Frame arithmetic (spec 00, section 1.5) -/

/-- The frame distance from `a` to `b`: (b - a) mod 4096. -/
def frameDist (a b : FrameCount) : Nat := (b - a).toNat

/-- `b` is later than `a`: the distance from `a` to `b` is 1 to 2047. -/
def laterThan (b a : FrameCount) : Bool := decide (1 ≤ frameDist a b ∧ frameDist a b ≤ 2047)

/-- `b` is earlier than `a`: the distance from `a` to `b` is 2048 to 4095. -/
def earlierThan (b a : FrameCount) : Bool := decide (2048 ≤ frameDist a b)

/-- `b` is `a` or later than `a`. -/
def atOrAfter (b a : FrameCount) : Bool := decide (frameDist a b ≤ 2047)

/-- Change count `a` is older than `b`: (b - a) mod 16 is 1 to 7 (R24). -/
def olderCount (a b : ChangeCount) : Bool := decide (1 ≤ (b - a).toNat ∧ (b - a).toNat ≤ 7)

/-! ### Tables -/

/-- Apply `f` to every entry of a table. -/
def Table.update {n : Nat} {α : Type} (f : α → α) (t : Table n α) : Table n α :=
  ⟨⟨t.toArray.toList.map f⟩, by simp⟩

/-- The entries of a table with their numbers, in order. -/
def Table.list {n : Nat} {α : Type} (t : Table n α) : List α := t.toArray.toList

/-! ### Ordered lists -/

/-- Insert `x` into a list of stream ids in ascending order; a stream already listed stays listed once. -/
def insertId (x : StreamId) : List StreamId → List StreamId
  | [] => [x]
  | y :: ys => if x < y then x :: y :: ys else if x = y then y :: ys else y :: insertId x ys

/-- Insert `x` before the first element that `lt x` holds of: after every element that is not greater. -/
def insertBy {α : Type} (lt : α → α → Bool) (x : α) : List α → List α
  | [] => [x]
  | y :: ys => if lt x y then x :: y :: ys else y :: insertBy lt x ys

/-- Sort by `lt`, keeping the order of elements neither of which is less than the other. -/
def sortBy {α : Type} (lt : α → α → Bool) : List α → List α
  | [] => []
  | x :: xs => insertBy (fun a b => !lt b a) x (sortBy lt xs)

/-- Append at the tail of a list that keeps its last `n` elements. -/
def pushLast {α : Type} (n : Nat) (xs : List α) (x : α) : List α :=
  let ys := xs ++ [x]
  ys.drop (ys.length - n)

/-! ### Counters (R170) -/

/-- One more, unless the counter stands at 65535. -/
def bump (c : BitVec 16) : BitVec 16 := if c = 65535 then c else c + 1

/-- Count a control error. -/
def countControlError (s : State) : State :=
  { s with mod := { s.mod with counters := { s.mod.counters with controlErrors := bump s.mod.counters.controlErrors } } }

/-- Count a parcel dropped as late (R73). -/
def countLateParcel (s : State) : State :=
  { s with mod := { s.mod with counters := { s.mod.counters with lateParcels := bump s.mod.counters.lateParcels } } }

/-- Count a copy lost by the store (R112). -/
def countStoreDrop (s : State) : State :=
  { s with mod := { s.mod with counters := { s.mod.counters with storeDrops := bump s.mod.counters.storeDrops } } }

/-- Count an entry displaced or refused at a full queue (R127). -/
def countQueueDrop (s : State) : State :=
  { s with mod := { s.mod with counters := { s.mod.counters with queueDrops := bump s.mod.counters.queueDrops } } }

/-- Count a TRACE refused beyond the eighth, or rewritten in place (R126, R128). -/
def countTraceDrop (s : State) : State :=
  { s with mod := { s.mod with counters := { s.mod.counters with traceDrops := bump s.mod.counters.traceDrops } } }

/-- Count an entry dropped at its fourth failed attempt (R119). -/
def countLinkDrop (s : State) : State :=
  { s with mod := { s.mod with counters := { s.mod.counters with linkDrops := bump s.mod.counters.linkDrops } } }

/-- Count a slip (R16). -/
def countSlip (s : State) : State :=
  { s with mod := { s.mod with counters := { s.mod.counters with slips := bump s.mod.counters.slips } } }

/-- Apply `f` `n` times. -/
def times {α : Type} (f : α → α) : Nat → α → α
  | 0, x => x
  | n + 1, x => times f n (f x)

/-! ### Page memory (R99) -/

/-- The byte at an address: page × 256 + offset. -/
def readByte (m : Memory) (a : Nat) : Byte :=
  match m.find? (fun c => c.1 == a) with
  | some c => c.2
  | none => Config.blankPageByte

/-- The bytes of a list at rising addresses from `a`. -/
def cellsFrom : Nat → List Byte → Memory
  | _, [] => []
  | a, b :: bs => (a, b) :: cellsFrom (a + 1) bs

/-- Write bytes at rising addresses from `a`, keeping the canonical form. -/
def writeBytes (m : Memory) (a : Nat) (bytes : List Byte) : Memory :=
  m.filter (fun c => decide (c.1 < a)) ++
    (cellsFrom a bytes).filter (fun c => decide (c.2 ≠ Config.blankPageByte)) ++
    m.filter (fun c => decide (a + bytes.length ≤ c.1))

/-- The canonical form: addresses strictly rising, no entry equal to what an unlisted address reads as. -/
abbrev Memory.wf (m : Memory) : Prop :=
  m.Pairwise (fun x y => x.1 < y.1) ∧ ∀ c ∈ m, c.2 ≠ Config.blankPageByte

/-- Fill pages in order with the bytes of a copy (R99). -/
def writePages : Memory → List (Fin 256) → List Byte → Memory
  | m, [], _ => m
  | m, p :: ps, bs => writePages (writeBytes m (p.val * 256) (bs.take 256)) ps (bs.drop 256)

/-- The first `n` bytes held in pages, in page-list order (R99). -/
def readPages (m : Memory) : List (Fin 256) → Nat → List Byte
  | [], _ => []
  | p :: ps, n => (List.range (min n 256)).map (fun i => readByte m (p.val * 256 + i)) ++ readPages m ps (n - 256)

/-- Pages a copy of `n` bytes occupies: ceil(n / 256) (R99). -/
def pagesFor (n : Nat) : Nat := (n + 255) / 256

/-! ### Protection profiles and parcel length (R23) -/

/-- Net bytes per grain of a profile 0 to 7: 3 to 10 (section 2.2). -/
def netBytes (profile : Nat) : Nat := profile + 3

/-- The parcel length: grain count times net bytes per grain. -/
def parcelLength (grains profile : Nat) : Nat := grains * netBytes profile

/-- The payload length: the parcel length less its check word. -/
def payloadLength (grains profile : Nat) : Nat := parcelLength grains profile - 2

end Sys2Proof.Machine
end

