-- ==== Sys2Proof/Machine/Flags.lean ====
section
/-!
DEFINITION. Every flag and figure of a copy (chapter 5): the cyclic checks, erasures and disagreements, the score,
usability, the marker list and the outcome of a job.
-/

namespace Sys2Proof.Machine

/-! ### Bits and cyclic checks -/

/-- The bits of a value, most significant bit first. -/
def bitsOf {n : Nat} (v : BitVec n) : List Bool := (List.range n).map (fun i => v.getMsbD i)

/-- The bits of bytes in order, each most significant bit first. -/
def bytesBits (bs : List Byte) : List Bool := bs.flatMap bitsOf

/-- One bit into a cyclic check of width `n` with generator low part `g`. -/
def crcStep {n : Nat} (g : BitVec n) (reg : BitVec n) (bit : Bool) : BitVec n :=
  if reg.msb != bit then (reg <<< 1) ^^^ g else reg <<< 1

/-- The 16-bit check: x^16 + x^12 + x^5 + 1, preset FFFFh, no final inversion (R87, R115). -/
def crc16 (bits : List Bool) : BitVec 16 := bits.foldl (crcStep 0x1021) 0xFFFF

/-- The 8-bit check of lane control words: x^8 + x^2 + x + 1, preset 00h (R135). -/
def crc8 (bits : List Bool) : BitVec 8 := bits.foldl (crcStep 0x07) 0x00

/-! ### Cells -/

/-- The erasure value, -8. -/
abbrev erasure : Cell := 8

/-- A word of eight erasures. -/
abbrev erasedWord : CellWord := 0x88888888

/-- Cell `k` (0 to 7) of a word; the first cell is in bits 31..28 (R135). -/
def cellOf (w : CellWord) (k : Nat) : Cell := w.extractLsb' (28 - 4 * k) 4

/-- Number of erased cells of a span read (R85). -/
def erasures (span : List Cell) : Nat := span.countP (fun c => c == erasure)

/-- A cell contradicts a decoded code bit: it is neither erased nor 0, and its hard decision (1 to 7 is the bit 0,
-7 to -1 the bit 1) differs from the bit (R86). -/
def contradicts (c : Cell) (bit : Bool) : Bool := c != erasure && c != 0 && (c.msb != bit)

/-- Number of disagreements (R86). A cell for which `code` lists no bit does not disagree (log 28). -/
def disagreements (span : List Cell) (code : List Bool) : Nat :=
  (span.zip code).countP (fun p => contradicts p.1 p.2)

/-! ### Score (R88, R89) -/

/-- The disagreement ratio r = floor(d × 4096 / u). -/
def disagreementRatio (d u : Nat) : Nat := d * 4096 / u

/-- The erasure ratio f = floor(e × 4096 / N). -/
def erasureRatio (e n : Nat) : Nat := e * 4096 / n

/-- raw = 1023 - floor(r / 4) - floor(f / 8), which may be negative (R89). -/
def rawScore (n e d : Nat) : Int :=
  1023 - (disagreementRatio d (n - e) / 4 : Nat) - (erasureRatio e n / 8 : Nat)

/-- The score from N, e, d and the outer check; 0 where every cell was erased (R88, R89). -/
def scoreOf (n e d : Nat) (pass : Bool) : Nat :=
  if n - e = 0 then 0
  else if pass then (max (rawScore n e d) 256).toNat
  else if rawScore n e d < 0 then 0 else (rawScore n e d / 4).toNat

/-- SATURATED: 4 × d is at least u; always where u = 0 (R90). -/
def saturatedOf (n e d : Nat) : Bool := decide (n - e ≤ 4 * d)

/-- A copy is unusable when its outer check failed and it is SATURATED (R91). -/
def unusableCopy (pass saturated : Bool) : Bool := !pass && saturated

/-! ### Outer check and marker list -/

/-- The parcel as the engine holds it: exactly the job's parcel length of bytes (log 28). -/
def fitBytes (n : Nat) (bytes : List Byte) : List Byte := (bytes ++ List.replicate n 0).take n

/-- The outer check of R87 on a parcel with payload length `p`: PASS where the check register after the payload
equals the check word, and not every cell of the span read was an erasure. -/
def outerCheck (p : Nat) (parcel : List Byte) (u : Nat) : Bool :=
  u != 0 && (bitsOf (crc16 (bytesBits (parcel.take p))) == bytesBits (parcel.drop p))

/-- Payload positions that hold the marker byte 5Ch, counted from `i`. -/
def markerPositions : Nat → List Byte → List Nat
  | _, [] => []
  | i, b :: bs => if b = 0x5C then i :: markerPositions (i + 1) bs else markerPositions (i + 1) bs

/-- All marker positions of a job's payload; none for a PLAIN job (R92). -/
def markersOf (kind : StreamKind) (payload : List Byte) : List Nat :=
  match kind with
  | .unit => markerPositions 0 payload
  | .plain => []

/-- What decoding a job forms (R84). -/
structure JobOutcome where
  payloadLength : Nat
  parcel : List Byte
  cells : Nat
  erasures : Nat
  disagreements : Nat
  pass : Bool
  score : Nat
  erased : Bool
  saturated : Bool
  cold : Bool
  markerOverflow : Bool
  markers : List Nat
  source : ContextSource
  decodeTime : Nat
  deriving DecidableEq, Repr

/-- The outcome of a job from its span read and what the inner decoder found, decoding having ended at `now`
(R84 to R92); the decode time runs from the round that gave the job its engine (R71). -/
def outcomeOf (j : Job) (span : List Cell) (found : Decoded) (now : Instant) : JobOutcome :=
  let p := payloadLength j.grains j.profile
  let parcel := fitBytes (parcelLength j.grains j.profile) found.bytes
  let n := span.length
  let e := erasures span
  let d := disagreements span found.code
  let pass := outerCheck p parcel (n - e)
  let ms := markersOf j.kind (parcel.take p)
  { payloadLength := p, parcel := parcel, cells := n, erasures := e, disagreements := d, pass := pass,
    score := scoreOf n e d pass, erased := decide (0 < e), saturated := saturatedOf n e d,
    cold := decide (j.source = .cold), markerOverflow := decide (32 < ms.length), markers := ms.take 32,
    source := j.source, decodeTime := (now - j.started) / traceUnit }

/-! ### Unit walk (R93 to R97) -/

/-- The byte at a payload position. -/
def payloadByte (payload : List Byte) (i : Nat) : Byte := payload.getD i 0

/-- The total length in the header at `o` (section 5.7). -/
def headerLength (payload : List Byte) (o : Nat) : Nat :=
  (payloadByte payload (o + 1)).toNat * 256 + (payloadByte payload (o + 2)).toNat

/-- The steps of a walk from offset `o` (R94): the offsets of the accepted units, and the carry-out, none where the
chain is broken (R95). `fuel` bounds the steps; each one moves `o` by at least 4. -/
def walkChain (payload : List Byte) : Nat → Nat → List Nat × Option Nat
  | 0, _ => ([], none)
  | fuel + 1, o =>
    let p := payload.length
    if p - o < 3 then ([], some 0)
    else
      let l := headerLength payload o
      if payloadByte payload o = 0x5C ∧ 4 ≤ l then
        if o + l = p then ([o], some 0)
        else if p < o + l then ([o], some (o + l - p))
        else
          let rest := walkChain payload fuel (o + l)
          (o :: rest.1, rest.2)
      else ([], none)

/-- A walk's results from its chain: the list holds at most 32 offsets (R96), RESYNC is set where the chain broke (R95).
UNIT_OVERFLOW is set where a 33rd unit was accepted, and where the chain broke after the 32nd offset (R96; DEDUCED,
log 51). -/
def walkResult (chain : List Nat × Option Nat) : Walk :=
  { units := chain.1.take 32, carryOut := chain.2, resync := chain.2.isNone,
    overflow := decide (32 < chain.1.length) || (chain.2.isNone && decide (32 ≤ chain.1.length)) }

/-- The walk with a known carry-in `k` (R94). -/
def walkKnown (payload : List Byte) (k : Nat) : Walk :=
  if payload.length ≤ k then { units := [], carryOut := some (k - payload.length), resync := false, overflow := false }
  else walkResult (walkChain payload (payload.length + 1) k)

/-- The walk with carry-in UNKNOWN (R97): the first marker position whose trial walk is unbroken. -/
def walkUnknown (payload : List Byte) : List Nat → Walk
  | [] => { units := [], carryOut := none, resync := true, overflow := false }
  | m :: ms =>
    let chain := walkChain payload (payload.length + 1) m
    if payload.length - m < 3 then walkUnknown payload ms
    else if chain.2.isNone then walkUnknown payload ms
    else { walkResult chain with resync := true }

/-- The unit walk of a copy (R93). A PLAIN copy is not walked: no units, carry-out 0, flags clear. -/
def unitWalk (kind : StreamKind) (payload : List Byte) (markers : List Nat) (carryIn : Option Nat) : Walk :=
  match kind, carryIn with
  | .plain, _ => { units := [], carryOut := some 0, resync := false, overflow := false }
  | .unit, some k => walkKnown payload k
  | .unit, none => walkUnknown payload markers

/-- The carry-in a PARCEL carries: the one walked with; 0 for a PLAIN copy (R93, R98). -/
def carriedIn (kind : StreamKind) (carryIn : Option Nat) : Option Nat :=
  match kind with
  | .plain => some 0
  | .unit => carryIn

end Sys2Proof.Machine
end

