-- ==== Sys2Proof/Machine/Wire.lean ====
section
/-!
DEFINITION. Bits on the ensemble link and on the lanes: kind codes and header bytes (R134), bit stuffing, the parts
of a message and a receiver's judgement (R114, R115, R118), bit by bit arbitration (R116, R117), and lane words (R135).
A bit is `false` when dominant (0) and `true` when recessive (1).
-/

namespace Sys2Proof.Machine

/-! ### Kind codes and header (R134) -/

/-- The kind code of a message kind. -/
def kindCode : MsgKind → Byte
  | .parcel => 0x01
  | .gap => 0x02
  | .status => 0x03
  | .map => 0x04
  | .trace => 0x05
  | .drained => 0x06
  | .quiesced => 0x07
  | .subscribe => 0x11
  | .release => 0x12
  | .ensembleChange => 0x21
  | .restart => 0x22
  | .quiesce => 0x23
  | .resume => 0x24

/-- Every message kind. -/
def allKinds : List MsgKind :=
  [.parcel, .gap, .status, .map, .trace, .drained, .quiesced, .subscribe, .release, .ensembleChange, .restart, .quiesce,
    .resume]

/-- The kind a code names, if any. -/
def kindOfCode (c : Byte) : Option MsgKind := allKinds.find? (fun k => kindCode k == c)

/-- The two bytes of a 16-bit field, most significant first. -/
def bytes16 (v : BitVec 16) : List Byte := [v.extractLsb' 8 8, v.extractLsb' 0 8]

/-- A 16-bit field of bytes at a position. -/
def word16 (bs : List Byte) (i : Nat) : BitVec 16 := (bs.getD i 0) ++ (bs.getD (i + 1) 0)

/-- The 12 header bytes of a message with kind code `code`. -/
def headerBytes (code : Byte) (h : Header) : List Byte :=
  [code, h.source, h.stream] ++ bytes16 h.frame ++ bytes16 h.bodyLength ++
    [h.flags, h.attempt, h.mode, h.sync, h.fault]

/-- The header of 12 bytes, less the kind code. -/
def headerOfBytes (bs : List Byte) : Header :=
  { source := bs.getD 1 0, stream := bs.getD 2 0, frame := word16 bs 3, bodyLength := word16 bs 5, flags := bs.getD 7 0,
    attempt := bs.getD 8 0, mode := bs.getD 9 0, sync := bs.getD 10 0, fault := bs.getD 11 0 }

/-! ### Message bits (R114, R115) -/

/-- Insert a stuff bit after every run of seven equal bits; the stuff bit is the first bit of the next run (R114).
`run` bits equal to `last` stand before. -/
def stuffFrom (last : Bool) (run : Nat) : List Bool → List Bool
  | [] => []
  | b :: bs =>
    let n := if b = last then run + 1 else 1
    if n = 7 then b :: (!b) :: stuffFrom (!b) 1 bs else b :: stuffFrom b n bs

/-- The stuffed form of a bit string. -/
def stuff (bits : List Bool) : List Bool := stuffFrom false 0 bits

/-- Remove stuff bits; none where a run of eight equal bits is met, a framing fault (R114). A run of 7 that ends the
stuffed part without its stuff bit is no fault: DESIGN CHOICE, log 60. -/
def unstuffFrom (last : Bool) (run : Nat) : List Bool → Option (List Bool)
  | [] => some []
  | b :: bs =>
    if run = 7 then if b = last then none else unstuffFrom b 1 bs
    else (unstuffFrom b (if b = last then run + 1 else 1) bs).map (b :: ·)

/-- The bits within the stuffed part, without stuff bits: start bit, arbitration field, header, body, check word. -/
def coreBits (arb : ArbField) (header body : List Byte) : List Bool :=
  let covered := bitsOf arb ++ bytesBits header ++ bytesBits body
  false :: covered ++ bitsOf (crc16 covered)

/-- The bits a sender drives from the start bit to the end of the end flag (R115). -/
def wireBits (arb : ArbField) (header body : List Byte) : List Bool :=
  stuff (coreBits arb header body) ++ [true] ++ List.replicate 8 false

/-- The bit times from the start bit to the next instant at which the line is free: end slot, delimiter and two more
recessive bits behind the end flag (R115). -/
def lineBits (arb : ArbField) (header body : List Byte) : Nat := (wireBits arb header body).length + 11

/-! ### A receiver's judgement (R115, R118) -/

/-- The bits before the first run of eight dominant bits, newest first, and none where no such run comes. `seen` holds
the bits read, newest first, the last `run` of them dominant. -/
def beforeFlag (run : Nat) (seen : List Bool) : List Bool → Option (List Bool)
  | [] => none
  | b :: bs =>
    let n := if b then 0 else run + 1
    if n = 8 then some ((b :: seen).drop 8) else beforeFlag n (b :: seen) bs

/-- The value of bits, most significant first. -/
def natOfBits (bits : List Bool) : Nat := bits.foldl (fun v b => 2 * v + b.toNat) 0

/-- The bytes of a bit string; a last group of fewer than eight bits is not a byte. -/
def bytesOfBits : Nat → List Bool → List Byte
  | 0, _ => []
  | fuel + 1, bits => if bits.length < 8 then [] else BitVec.ofNat 8 (natOfBits (bits.take 8)) :: bytesOfBits fuel (bits.drop 8)

/-- What a receiver reads out of a message it judges sound. -/
structure Received where
  arb : ArbField
  code : Byte
  header : Header
  body : List Byte
  deriving DecidableEq, Repr

/-- The longest body, in bytes (R134). -/
abbrev maxBody : Nat := 6073

/-- Read the unstuffed bits of a message; none where the message is damaged (R118). -/
def readCore (bits : List Bool) : Option Received :=
  let covered := (bits.drop 1).take (bits.length - 17)
  let check := bits.drop (bits.length - 16)
  let bytes := bytesOfBits bits.length (covered.drop 16)
  let h := headerOfBytes bytes
  if bits.length < 129 then none
  else if (bits.length - 129) % 8 ≠ 0 then none
  else if bitsOf (crc16 covered) ≠ check then none
  else if (bits.length - 129) / 8 ≠ h.bodyLength.toNat then none
  else if maxBody < h.bodyLength.toNat then none
  else some { arb := BitVec.ofNat 16 (natOfBits (covered.take 16)), code := bytes.getD 0 0, header := h, body := bytes.drop 12 }

/-- A receiver's judgement of the bits it read from the start bit on, end flag included: what it reads of a sound
message, none where the message is damaged (R118). The recessive bit before the end flag is the flag lead. -/
def judge (bits : List Bool) : Option Received :=
  match beforeFlag 0 [] bits with
  | none => none
  | some [] => none
  | some (_ :: rest) =>
    match unstuffFrom false 0 rest.reverse with
    | none => none
    | some core => readCore core

/-! ### Arbitration (R116, R117) -/

/-- class × 8192 + rank × 8 + station. -/
def arbField (cls rank station : Nat) : ArbField := BitVec.ofNat 16 (cls * 8192 + rank * 8 + station)

/-- Contention from bit `n - 1` down: the line is dominant when any sender sends 0; a station that sends recessive and
reads dominant has lost. Answers whether the sender of `own` finishes still sending. -/
def survives (own : ArbField) : Nat → List ArbField → Bool
  | 0, _ => true
  | n + 1, rivals =>
    if own.getLsbD n then
      if rivals.any (fun r => !r.getLsbD n) then false else survives own n rivals
    else survives own n (rivals.filter (fun r => !r.getLsbD n))

/-- This station's field against those of the other contenders. -/
def winsArbitration (own : ArbField) (rivals : List ArbField) : Bool := survives own 16 rivals

/-! ### Lane words (R135) -/

/-- What a 36-bit lane word is (R1, R135). -/
inductive LaneWord where
  | cells (area : Area) (cells : CellWord)
  | marker
  | status (present : Bool) (quality : Byte)
  | idle
  | corrupt
  deriving DecidableEq, Repr

/-- The check of a lane control word, over its type code and 24 bits of content. -/
def laneCheck (code : BitVec 4) (content : BitVec 24) : BitVec 8 := crc8 (bitsOf code ++ bitsOf content)

/-- A lane control word. -/
def controlWordBits (code : BitVec 4) (content : BitVec 24) : BitVec 36 := code ++ content ++ laneCheck code content

/-- The 36 bits of a lane word; a corrupt word has no bits of its own. -/
def encodeLaneWord : LaneWord → Option (BitVec 36)
  | .cells .payload c => some ((0x0 : BitVec 4) ++ c)
  | .cells .control c => some ((0x1 : BitVec 4) ++ c)
  | .marker => some (controlWordBits 0x9 0x3CC3A5)
  | .status present quality => some (controlWordBits 0x6 (BitVec.ofBool present ++ quality ++ (0 : BitVec 15)))
  | .idle => some (controlWordBits 0xF 0x5A0FF0)
  | .corrupt => none

/-- The lane word that 36 bits are (R1, R135). -/
def classifyLaneWord (w : BitVec 36) : LaneWord :=
  let code : BitVec 4 := w.extractLsb' 32 4
  let content : BitVec 24 := w.extractLsb' 8 24
  let good := w.extractLsb' 0 8 == laneCheck code content
  if code = 0x0 then .cells .payload (w.extractLsb' 0 32)
  else if code = 0x1 then .cells .control (w.extractLsb' 0 32)
  else if code = 0x9 then if good && content == 0x3CC3A5 then .marker else .corrupt
  else if code = 0xF then if good && content == 0x5A0FF0 then .idle else .corrupt
  else if code = 0x6 then
    if good && content.extractLsb' 0 15 == 0 then .status content.msb (content.extractLsb' 15 8) else .corrupt
  else .corrupt

end Sys2Proof.Machine
end

