-- ==== Sys2Proof/Machine/Operands.lean ====
section
/-!
DEFINITION. The operand forms of the message commands: the bodies of R134 written and read, and the tests of the
receive filter (R132).
-/

namespace Sys2Proof.Machine

/-! ### Codes (R134) -/

/-- A field value FFFFh, "none" in a frame field and UNKNOWN in a carry field. -/
abbrev noWord : BitVec 16 := 0xFFFF

def modeCode : Mode → Byte
  | .running => 1
  | .draining => 2
  | .quiescing => 3
  | .quiesced => 4
  | .restarting => 0  -- a station in RESTARTING sends nothing (R134)

def syncCode : SyncState → Byte
  | .search => 1
  | .provisional => 2
  | .locked => 3
  | .holdover => 4
  | .lost => 5

def syncOfCode (b : Byte) : SyncState :=
  if b = 2 then .provisional else if b = 3 then .locked else if b = 4 then .holdover else if b = 5 then .lost else .search

def faultCode : FaultRecord → Byte
  | .none => 0
  | .stuck => 1
  | .duplicate => 2

def laneCode : LaneState → Byte
  | .off => 0
  | .acquire => 1
  | .track => 2
  | .aligned => 3

def polarityCode : Option Polarity → Byte
  | none => 0
  | some .positive => 1
  | some .negative => 2

def tuneCode : TuneMode → Byte
  | .none => 0
  | .oneShot => 1
  | .continuous => 2

def mapStateCode : MapState → Byte
  | .none => 0
  | .assembling => 1
  | .complete => 2
  | .adopted => 3

def mapStateOfCode (b : Byte) : MapState :=
  if b = 1 then .assembling else if b = 2 then .complete else if b = 3 then .adopted else .none

def reasonCode : GapReason → Byte
  | .notDecoded => 1
  | .unusable => 2
  | .late => 3

def sourceCode : ContextSource → Byte
  | .warmHeld => 0
  | .warmTable => 1
  | .transferred => 2
  | .cold => 3

def classCode : JobClass → Byte
  | .foreground => 1
  | .background => 2

def effectiveCode : EffectiveClass → Byte
  | .foreground => 1
  | .background => 2
  | .demoted => 3

/-- A byte of flags, bit 0 first. -/
def flagByte (bits : List Bool) : Byte := BitVec.ofNat 8 (natOfBits bits.reverse)

/-- A carry field: a number of bytes, or UNKNOWN. -/
def carryField : Option Nat → BitVec 16
  | none => noWord
  | some k => BitVec.ofNat 16 k

/-- The carry a field gives. -/
def carryOfField (w : BitVec 16) : Option Nat := if w = noWord then none else some w.toNat

/-- A frame count in a 16-bit field. -/
def frameField (f : FrameCount) : BitVec 16 := f.setWidth 16

/-- The frame count of a 16-bit field. -/
def frameOfField (w : BitVec 16) : FrameCount := w.setWidth 12

/-- The stream id of a byte in 0..63. -/
def streamOfByte (b : Byte) : StreamId := Fin.ofNat 64 b.toNat

/-- A stream id as a byte. -/
def streamByte (s : StreamId) : Byte := BitVec.ofNat 8 s.val

/-! ### Bodies a Tarcen station sends (R134) -/

/-- PARCEL: fixed fields, unit offsets where they are carried, then the payload bytes. -/
def parcelBody (r : ParcelRecord) (carryIn : Option Nat) (w : Walk) (offsets : Bool) (payload : List Byte) : List Byte :=
  [r.changeCount.setWidth 8] ++ bytes16 (BitVec.ofNat 16 r.score) ++
    [flagByte [r.pass, r.erased, r.cold, w.resync, w.overflow]] ++ bytes16 (BitVec.ofNat 16 r.payloadLength) ++
    bytes16 (carryField carryIn) ++ bytes16 (carryField w.carryOut) ++ [BitVec.ofNat 8 w.units.length] ++
    (if offsets then w.units.flatMap (fun o => bytes16 (BitVec.ofNat 16 o)) else []) ++ payload

/-- The header field of a map in a STATUS: state, change count, entry count; both counts 0 while NONE (R168). -/
def mapFields (m : MuxMap) : List Byte :=
  if m.state = .none then [0, 0, 0]
  else [mapStateCode m.state, m.count.setWidth 8, BitVec.ofNat 8 m.entryCount]

def laneFields (l : Lane) : List Byte := [laneCode l.state, polarityCode l.polarity, tuneCode l.tune, l.quality]

def subscriptionBytes (x : Subscription) : List Byte :=
  [streamByte x.stream, x.consumer, classCode x.requested, effectiveCode x.effective, flagByte [x.trace, x.units]]

/-- STATUS: the body from the state as it stands (R168). -/
def statusBody (s : State) : List Byte :=
  let c := s.mod.counters
  [BitVec.ofNat 8 s.mod.straps.station.val, modeCode s.mod.mode, syncCode s.ftr.sync] ++ bytes16 (frameField s.ftr.count) ++
    laneFields (s.lanes.get 0) ++ laneFields (s.lanes.get 1) ++
    [flagByte [s.mod.straps.singleLane, s.mod.straps.termination]] ++
    mapFields s.maps.current ++ mapFields s.maps.next ++
    bytes16 (if s.maps.next.state = .none then noWord else frameField s.maps.next.changeFrame) ++
    bytes16 (BitVec.ofNat 16 (s.sub.foregroundLoad + s.sub.claimLoad)) ++
    bytes16 c.controlErrors ++ bytes16 c.lateParcels ++ bytes16 c.storeDrops ++ bytes16 c.queueDrops ++
    bytes16 c.traceDrops ++ bytes16 c.linkDrops ++ bytes16 c.slips ++
    [BitVec.ofNat 8 s.sub.claims.length, BitVec.ofNat 8 s.sub.table.length] ++
    s.sub.claims.map streamByte ++ s.sub.table.flatMap subscriptionBytes

/-- The profile byte of a MAP entry: profile in bits 2..0, kind in bit 7. -/
def profileByte (profile : Nat) (kind : Option StreamKind) : Byte :=
  BitVec.ofNat 8 (profile % 8 + if kind = some .unit then 128 else 0)

def rawEntryBytes (e : RawEntry) : List Byte :=
  [BitVec.ofNat 8 e.id] ++ bytes16 (BitVec.ofNat 16 e.start) ++ bytes16 (BitVec.ofNat 16 e.grains) ++
    [profileByte e.profile e.kind]

def mapBody (n : MapNotice) : List Byte :=
  [if n.isNext then 2 else 1, n.count.setWidth 8, BitVec.ofNat 8 n.entryCount] ++
    bytes16 (match n.changeFrame with | none => noWord | some f => frameField f) ++ n.entries.flatMap rawEntryBytes

def traceBody (b : TraceBody) : List Byte :=
  [BitVec.ofNat 8 b.engine.val] ++ bytes16 (BitVec.ofNat 16 b.score) ++
    [flagByte [b.pass, b.erased, b.saturated, b.cold, b.markerOverflow], sourceCode b.source] ++
    bytes16 (BitVec.ofNat 16 b.decodeTime)

/-! ### Bodies read -/

/-- Byte `i` of a body as a number. -/
def field8 (m : LinkMessage) (i : Nat) : Nat := (m.body.getD i 0).toNat

/-- The 16-bit field at `i` of a body. -/
def field16 (m : LinkMessage) (i : Nat) : Nat := (word16 m.body i).toNat

/-- The five bytes of a subscription in a STATUS. -/
def subscriptionOf (bs : List Byte) : Subscription :=
  { stream := streamOfByte (bs.getD 0 0), consumer := bs.getD 1 0,
    requested := if bs.getD 2 0 = 1 then .foreground else .background,
    effective := if bs.getD 3 0 = 1 then .foreground else if bs.getD 3 0 = 2 then .background else .demoted,
    trace := (bs.getD 4 0).getLsbD 0, units := (bs.getD 4 0).getLsbD 1 }

/-- The first `n` groups of `k` bytes. -/
def groups (k : Nat) : Nat → List Byte → List (List Byte)
  | 0, _ => []
  | n + 1, bs => bs.take k :: groups k n (bs.drop k)

/-- A peer's report, from the body of its STATUS; its aging timer runs to `aging` (R144, R145). -/
def peerOfStatus (m : LinkMessage) (aging : Instant) : Peer :=
  let b := m.body
  { isPresent := true, sync := syncOfCode (b.getD 2 0), count := frameOfField (word16 b 3),
    curState := mapStateOfCode (b.getD 14 0), curCount := (b.getD 15 0).setWidth 4, curEntries := field8 m 16,
    nextState := mapStateOfCode (b.getD 17 0), nextCount := (b.getD 18 0).setWidth 4, nextEntries := field8 m 19,
    changeFrame := frameOfField (word16 b 20),
    claims := ((b.drop 40).take (field8 m 38)).map streamOfByte,
    subs := (groups 5 (field8 m 39) (b.drop (40 + field8 m 38))).map subscriptionOf,
    aging := some aging }

/-- The six bytes of an entry in a MAP notice. -/
def rawEntryOf (bs : List Byte) : RawEntry :=
  { id := (bs.getD 0 0).toNat, start := (word16 bs 1).toNat, grains := (word16 bs 3).toNat,
    profile := (bs.getD 5 0).toNat % 8, kind := some (if (bs.getD 5 0).msb then .unit else .plain) }

/-- A MAP notice, from its body. -/
def noticeOf (m : LinkMessage) : MapNotice :=
  { isNext := m.body.getD 0 0 = 2, count := (m.body.getD 1 0).setWidth 4, entryCount := field8 m 2,
    changeFrame := if word16 m.body 3 = noWord then none else some (frameOfField (word16 m.body 3)),
    entries := (groups 6 ((m.body.length - 5) / 6) (m.body.drop 5)).map rawEntryOf }

/-! ### The receive filter's tests (R132) -/

/-- A kind sent by consumer stations. -/
def consumerKind : MsgKind → Bool
  | .subscribe | .release | .ensembleChange | .restart | .quiesce | .resume => true
  | _ => false

/-- The class of a kind (R116). -/
def classOf : MsgKind → Nat
  | .ensembleChange | .restart | .quiesce | .resume | .drained | .quiesced => 0
  | .subscribe | .release => 1
  | .status => 2
  | .map => 3
  | .parcel => 4
  | .gap => 5
  | .trace => 6

/-- The rank R116 gives a message's kind and content. -/
def rankOf (k : MsgKind) (m : LinkMessage) : Nat :=
  match k with
  | .parcel => 1023 - field16 m 1
  | .map => 16 - field8 m 2
  | _ => 0

/-- The kinds that concern a stream-frame. -/
def frameKind : MsgKind → Bool
  | .parcel | .gap | .trace => true
  | _ => false

/-- The kinds that concern a stream. -/
def streamKind : MsgKind → Bool
  | .parcel | .gap | .trace | .subscribe | .release => true
  | _ => false

/-- The body length a message's kind and content call for (R134). -/
def lengthCalledFor (k : MsgKind) (m : LinkMessage) : Nat :=
  match k with
  | .parcel => 11 + field16 m 4 + if m.header.flags.getLsbD 0 then 2 * field8 m 10 else 0
  | .gap => 1
  | .status => 40 + field8 m 38 + 5 * field8 m 39
  | .map => 5 + 6 * field8 m 2
  | .trace => 7
  | .drained | .quiesced | .release => 0
  | .subscribe | .ensembleChange => 2
  | .restart | .quiesce | .resume => 1

/-- The header fields lie in the ranges of R134 for the kind. -/
def headerInRange (k : MsgKind) (h : Header) : Bool :=
  decide (h.source.toNat ≤ 7) &&
  (if streamKind k then decide (h.stream.toNat ≤ 63) else h.stream == 0xFF) &&
  (if frameKind k then decide (h.frame.toNat ≤ 4095) else h.frame == noWord) &&
  (h.flags == 0 || (k == .parcel && h.flags == 1)) &&
  (if consumerKind k then h.attempt == 0 && h.mode == 0 && h.sync == 0 && h.fault == 0
   else decide (1 ≤ h.attempt.toNat ∧ h.attempt.toNat ≤ 4) && decide (1 ≤ h.mode.toNat ∧ h.mode.toNat ≤ 4) &&
     decide (1 ≤ h.sync.toNat ∧ h.sync.toNat ≤ 5) && decide (h.fault.toNat ≤ 2))

/-- The five bytes of a subscription in a STATUS lie in their ranges; the consumer station is tested at adoption (R151). -/
def subscriptionInRange (bs : List Byte) : Bool :=
  decide ((bs.getD 0 0).toNat ≤ 63) && decide (1 ≤ (bs.getD 2 0).toNat ∧ (bs.getD 2 0).toNat ≤ 2) &&
  decide (1 ≤ (bs.getD 3 0).toNat ∧ (bs.getD 3 0).toNat ≤ 3) && decide ((bs.getD 4 0).toNat ≤ 3)

/-- A lane's four bytes in a STATUS lie in their ranges. -/
def laneInRange (m : LinkMessage) (i : Nat) : Bool :=
  decide (field8 m i ≤ 3) && decide (field8 m (i + 1) ≤ 2) && decide (field8 m (i + 2) ≤ 2)

/-- The body fields lie in the ranges of R134. The entries of a MAP notice are tested by R42 (log 32). Where section 7.8
gives a field no range, it is the range of the value it carries: a frame count to 4095, a change count to 15, an entry
count to 64, a score to 1023; and the ascending order of a STATUS's claims and a MAP's entries is not tested (DESIGN
CHOICE, log 32). -/
def bodyInRange (k : MsgKind) (m : LinkMessage) : Bool :=
  match k with
  | .parcel =>
    decide (field8 m 0 ≤ 15) && decide (field16 m 1 ≤ 1023) && decide (field8 m 3 ≤ 31) &&
    decide (1 ≤ field16 m 4 ∧ field16 m 4 ≤ 5998) &&
    (decide (field16 m 6 ≤ 65532) || word16 m.body 6 == noWord) &&
    (decide (field16 m 8 ≤ 65532) || word16 m.body 8 == noWord) && decide (field8 m 10 ≤ 32)
  | .gap => decide (1 ≤ field8 m 0 ∧ field8 m 0 ≤ 3)
  | .status =>
    decide (field8 m 0 ≤ 3) && decide (1 ≤ field8 m 1 ∧ field8 m 1 ≤ 4) && decide (1 ≤ field8 m 2 ∧ field8 m 2 ≤ 5) &&
    decide (field16 m 3 ≤ 4095) && laneInRange m 5 && laneInRange m 9 && decide (field8 m 13 ≤ 3) &&
    decide (field8 m 14 ≤ 3) && decide (field8 m 15 ≤ 15) && decide (field8 m 16 ≤ 64) &&
    decide (field8 m 17 ≤ 3) && decide (field8 m 18 ≤ 15) && decide (field8 m 19 ≤ 64) &&
    (if field8 m 17 = 0 then word16 m.body 20 == noWord else decide (field16 m 20 ≤ 4095)) &&
    decide (field16 m 22 ≤ 480) && decide (field8 m 38 ≤ 16) && decide (field8 m 39 ≤ 16) &&
    ((m.body.drop 40).take (field8 m 38)).all (fun b => decide (b.toNat ≤ 63)) &&
    (groups 5 (field8 m 39) (m.body.drop (40 + field8 m 38))).all subscriptionInRange
  | .map =>
    decide (1 ≤ field8 m 0 ∧ field8 m 0 ≤ 2) && decide (field8 m 1 ≤ 15) && decide (field8 m 2 ≤ 64) &&
    (if field8 m 0 = 1 then word16 m.body 3 == noWord else decide (field16 m 3 ≤ 4095) || word16 m.body 3 == noWord) &&
    (groups 6 (field8 m 2) (m.body.drop 5)).all (fun bs => decide ((bs.getD 5 0).toNat % 128 ≤ 7))
  | .trace =>
    decide (field8 m 0 ≤ 2) && decide (field16 m 1 ≤ 1023) && decide (field8 m 3 ≤ 31) && decide (field8 m 4 ≤ 3)
  | .subscribe => decide (1 ≤ field8 m 0 ∧ field8 m 0 ≤ 2) && decide (field8 m 1 ≤ 3)
  | .restart | .quiesce | .resume => decide (field8 m 0 ≤ 3) || field8 m 0 == 7
  | .drained | .quiesced | .release | .ensembleChange => true

/-- The receive filter passes a complete message of kind `k` (R132). -/
def filterPasses (k : MsgKind) (m : LinkMessage) : Bool :=
  m.arb == arbField (classOf k) (rankOf k m) (m.header.source.toNat % 8) &&
  (if consumerKind k then decide (4 ≤ m.header.source.toNat) else decide (m.header.source.toNat ≤ 3)) &&
  m.body.length == lengthCalledFor k m && headerInRange k m.header && bodyInRange k m

/-- A receiver takes the body as sent: its length is the header's, and not over the longest body (R118). -/
def bodyWhole (m : LinkMessage) : Bool :=
  m.body.length == m.header.bodyLength.toNat && decide (m.body.length ≤ maxBody)

/-- The options byte of a SUBSCRIBE: bit 0 TRACE, bit 1 UNITS. -/
def traceOption (m : LinkMessage) : Bool := (m.body.getD 1 0).getLsbD 0

def unitsOption (m : LinkMessage) : Bool := (m.body.getD 1 0).getLsbD 1

/-- The requested class of a SUBSCRIBE. -/
def requestedClass (m : LinkMessage) : JobClass := if m.body.getD 0 0 = 1 then .foreground else .background

end Sys2Proof.Machine
end

