-- ==== Sys2Proof/Decode.lean ====
section
/-!
DEFINITION. From bits to commands. The opcode table gives its rows no bits, so no table word spells a command; the
spec does give the bits of lane words (R135) and of link messages (R114, R115, R134), and those are read here.
-/

namespace Sys2Proof

open Sys2Proof.Machine

/-- The command a table word spells: none, since no row of the table has bits. -/
def decodeTableWord (nbits w : Nat) : Option Instr :=
  match nbits, w with
  | _, _ => none

/-- The command of a 36-bit word that arrives on an ALIGNED lane whose corrupt run is `run` (R1, R5, R135). `block` is
what the control decoder finds where the word completes a control block. -/
def commandOfLaneWord (t : Instant) (lane : LaneId) (run : Nat) (w : BitVec 36) (block : ControlBlock) : Instr :=
  match classifyLaneWord w with
  | .cells area cells => .cellWord t lane area cells block
  | .marker => .frameStartMarker t lane
  | .status present quality => .frontEndStatus t lane present quality
  | .idle => .idle t lane
  | .corrupt => if run = 3 then .fourthCorruptControlWord t lane else .corruptControlWord t lane

/-- The command of a complete message of kind code `code` (R132, R134). -/
def commandOfMessage (t : Instant) (code : Byte) (m : LinkMessage) : Instr :=
  match kindOfCode code with
  | none => .unknownKindMessage t code m
  | some .parcel => .parcel t (.heard m)
  | some .gap => .gap t (.heard m)
  | some .status => .status t (.heard m)
  | some .map => .map t (.heard m)
  | some .trace => .trace t (.heard m)
  | some .drained => .drained t (.heard m)
  | some .quiesced => .quiesced t (.heard m)
  | some .subscribe => .subscribe t m
  | some .release => .release t m
  | some .ensembleChange => .ensembleChange t m
  | some .restart => .restart t m
  | some .quiesce => .quiesce t m
  | some .resume => .resume t m

/-- The command of the bits a receiver has read, from the start bit to the end flag: a damaged message is rejected, a
sound one completes where the end slot stays recessive (R118). -/
def commandOfBits (t start : Instant) (bits : List Bool) : Instr :=
  match judge bits with
  | none => .reject t start bits
  | some r => commandOfMessage t r.code { start := start, arb := r.arb, header := r.header, body := r.body }

end Sys2Proof
end

