-- ==== Sys2Proof/Machine/Maps.lean ====
section
/-!
DEFINITION. Multiplex maps as tables (chapter 2): limits of an entry, overlap, usable and applicable maps, opening and
completing a map, and a carried map laid over a held one.
-/

namespace Sys2Proof.Machine

/-- A map is usable when it is COMPLETE or ADOPTED (R24). -/
def MuxMap.usable (m : MuxMap) : Bool := m.state == .complete || m.state == .adopted

/-- A map is COMPLETE with source OWN (R40). -/
def MuxMap.ownComplete (m : MuxMap) : Bool := m.state == .complete && m.source == .own

/-- The valid entry of a stream. -/
def MuxMap.entryOf (m : MuxMap) (x : StreamId) : Option MapEntry := m.entries.find? (fun e => e.id == x)

/-- A stream's grain count in a map, 0 where it has no valid position or the map is NONE (R140). -/
def MuxMap.grainsOf (m : MuxMap) (x : StreamId) : Nat := ((m.entryOf x).map (·.grains)).getD 0

/-- The limits of R22. -/
def entryInLimits (r : RawEntry) : Bool :=
  decide (r.id ≤ 63) && decide (r.start ≤ 599) && decide (1 ≤ r.grains ∧ r.grains ≤ 600) &&
  decide (r.start + r.grains ≤ 600) && decide (r.profile ≤ 7) && r.kind.isSome

/-- The entry that fields within the limits make. -/
def entryOfRaw (r : RawEntry) (own : Bool) : MapEntry :=
  { id := Fin.ofNat 64 r.id, start := r.start, grains := r.grains, profile := r.profile, kind := r.kind.getD .plain,
    own := own }

/-- An entry's fields, as a MAP notice carries them (R41). -/
def rawOfEntry (e : MapEntry) : RawEntry :=
  { id := e.id.val, start := e.start, grains := e.grains, profile := e.profile, kind := some e.kind }

/-- Two entries overlap when their grain runs share a grain (R22). -/
def overlaps (a b : MapEntry) : Bool := decide (a.start < b.start + b.grains) && decide (b.start < a.start + a.grains)

/-- Two entries are equal in every field; the own mark is not a field of the entry (R29). -/
def sameEntry (a b : MapEntry) : Bool := { a with own := true } == { b with own := true }

/-- Put an entry at its position, in ascending stream id, replacing the one held there. -/
def putEntry (e : MapEntry) : List MapEntry → List MapEntry
  | [] => [e]
  | x :: xs => if e.id < x.id then e :: x :: xs else if e.id = x.id then e :: xs else x :: putEntry e xs

/-- An ASSEMBLING map whose valid positions have reached the entry count is COMPLETE with source OWN (R28). -/
def completed (m : MuxMap) : MuxMap :=
  if m.state = .assembling ∧ m.entryCount ≤ m.entries.length then { m with state := .complete, source := .own } else m

/-- A map opened in ASSEMBLING with source OWN and no entries; with entry count 0 it is COMPLETE at once (R26, R27). -/
def openedMap (count : ChangeCount) (entryCount : Nat) (changeFrame : FrameCount) (deferred : Option FrameCount) : MuxMap :=
  completed
    { state := .assembling, count := count, entryCount := entryCount, source := .own, entries := [],
      changeFrame := changeFrame, deferred := deferred }

/-- The next map applies to logical frame `f` (R30). -/
def nextApplies (u : MapUnit) (f : FrameCount) : Bool := u.next.state != .none && atOrAfter f u.next.changeFrame

/-- The applicable map of logical frame `f` (R30). -/
def applicable (u : MapUnit) (f : FrameCount) : MuxMap :=
  if nextApplies u f then u.next
  else
    match u.outgoing with
    | some o => if earlierThan f o.changeFrame then o else u.current
    | none => u.current

/-- A stream is present for `f` when its position in the applicable map is valid (R30). -/
def presentFor (u : MapUnit) (x : StreamId) (f : FrameCount) : Bool := ((applicable u f).entryOf x).isSome

/-- A FRAME record lies within the limits of R21; the pending fields count only while the flag is set. -/
def frameRecordValid (r : FrameRecord) : Bool :=
  decide (r.entryCount ≤ 64) &&
  (!r.pending ||
    (laterThan r.changeFrame r.count && r.nextChangeCount != r.changeCount && decide (r.nextEntryCount ≤ 64)))

/-! ### STREAM records applied to a map (R28, R29, R44) -/

/-- What a STREAM record did to a map: the map it leaves, whether it counts as a control error, and whether content
changed (R31, R44). -/
structure RecordResult where
  map : MuxMap
  error : Bool
  contentChanged : Bool
  deriving DecidableEq, Repr

/-- A record gives a map content that it does not hold: its stream id is empty, or its entry differs in a field. -/
def changesContent (m : MuxMap) (e : MapEntry) : Bool :=
  match m.entryOf e.id with
  | some x => !sameEntry x e
  | none => true

/-- A record applied to an ASSEMBLING map (R28). One equal to the entry held changes no content (R31). -/
def applyToAssembling (m : MuxMap) (e : MapEntry) : RecordResult :=
  if m.entries.any (fun x => x.id != e.id && overlaps x e) then { map := m, error := true, contentChanged := false }
  else
    { map := completed { m with entries := putEntry { e with own := true } m.entries }, error := false,
      contentChanged := changesContent m e }

/-- A record applied to a COMPLETE map, which is frozen (R29). -/
def applyToComplete (m : MuxMap) (e : MapEntry) : RecordResult :=
  match m.entryOf e.id with
  | some x => { map := m, error := !sameEntry x e, contentChanged := false }
  | none => { map := m, error := true, contentChanged := false }

/-- A map whose every valid entry is own-marked is COMPLETE with source OWN (R43, R44). -/
def ownConfirmed (m : MuxMap) : MuxMap :=
  if m.entries.all (·.own) then { m with state := .complete, source := .own } else m

/-- A record applied to an ADOPTED map (R44). A record naming an empty stream id reopens a full map with its own-marked
entries and this record, tested against none of them; where that makes the entry count, R28 completes it (DEDUCED,
log 18). -/
def applyToAdopted (m : MuxMap) (e : MapEntry) : RecordResult :=
  match m.entryOf e.id with
  | some x =>
    if sameEntry x e then
      { map := ownConfirmed { m with entries := putEntry { x with own := true } m.entries }, error := false,
        contentChanged := false }
    else if m.entries.any (fun y => y.id != e.id && y.own && overlaps y e) then
      { map := m, error := true, contentChanged := false }
    else
      let kept := m.entries.filter (fun y => y.id == e.id || y.own || !overlaps y e)
      let m' := { m with entries := putEntry { e with own := true } kept }
      { map := if m'.entries.length < m.entryCount then { m' with state := .assembling, source := .own } else ownConfirmed m',
        error := false, contentChanged := true }
  | none =>
    if m.entries.length < m.entryCount then
      { map := ownConfirmed { m with entries := putEntry { e with own := true } m.entries }, error := false,
        contentChanged := true }
    else
      { map := completed { m with state := .assembling, source := .own, deferred := none,
                                  entries := putEntry { e with own := true } (m.entries.filter (·.own)) },
        error := false, contentChanged := true }

/-- A valid STREAM record applied to the map its tag names. -/
def applyRecord (m : MuxMap) (e : MapEntry) : RecordResult :=
  match m.state with
  | .none => { map := m, error := false, contentChanged := false }
  | .assembling => applyToAssembling m e
  | .complete => applyToComplete m e
  | .adopted => applyToAdopted m e

/-! ### MAP notices (R41 to R43) -/

/-- The notice a map is queued as (R41). -/
def noticeOfMap (isNext : Bool) (m : MuxMap) : MapNotice :=
  { isNext := isNext, count := m.count, entryCount := m.entryCount,
    changeFrame := if isNext then some m.changeFrame else none, entries := m.entries.map rawOfEntry }

/-- No two of a list's entries share an id, and no two overlap. -/
def entriesApart : List MapEntry → Bool
  | [] => true
  | e :: es => es.all (fun x => x.id != e.id && !overlaps x e) && entriesApart es

/-- The whole test of a heard MAP notice (R42). -/
def noticeSound (n : MapNotice) : Bool :=
  decide (n.entryCount ≤ 64) && n.entries.length == n.entryCount && n.entries.all entryInLimits &&
  entriesApart (n.entries.map (fun r => entryOfRaw r false)) && (!n.isNext || n.changeFrame.isSome)

/-- A carried map of change count `m` is adopted into this map (R43). -/
def adoptable (held : MuxMap) (m : ChangeCount) : Bool :=
  match held.state with
  | .none => true
  | .assembling | .adopted => !olderCount m held.count
  | .complete => olderCount held.count m

/-- The map that adoption makes (R43): entries in ascending id; an entry equal to one held with its own mark under the
same change count keeps the mark. A map whose every entry is own-marked is COMPLETE with source OWN at once. -/
def adoptedMap (held : MuxMap) (n : MapNotice) (changeFrame : FrameCount) : MuxMap :=
  let marked (e : MapEntry) : Bool :=
    held.state != .none && held.count == n.count &&
    match held.entryOf e.id with
    | some x => x.own && sameEntry x e
    | none => false
  let entries := n.entries.foldl (fun es r =>
    let e := entryOfRaw r false
    putEntry { e with own := marked e } es) []
  ownConfirmed
    { state := .adopted, count := n.count, entryCount := n.entryCount, source := .peer, entries := entries,
      changeFrame := changeFrame, deferred := held.deferred }

/-- Two maps have the same content: change count, entry count, entries but for own marks, and change frame (R43). -/
def sameContent (a b : MuxMap) : Bool :=
  a.count == b.count && a.entryCount == b.entryCount && a.changeFrame == b.changeFrame &&
  a.entries.map (fun e => { e with own := true }) == b.entries.map (fun e => { e with own := true })

end Sys2Proof.Machine
end

