-- ==== Sys2Proof/Machine/Ops.lean ====
section
/-!
DEFINITION. The named operations that many steps share: reading and writing the tables of State, the transmit queue
(R125 to R131), freeing a parcel record (R101), and the MAP notice (R41).
-/

namespace Sys2Proof.Machine

/-! ### Tables of State -/

def laneOf (s : State) (i : LaneId) : Lane := s.lanes.get i

def setLane (s : State) (i : LaneId) (l : Lane) : State := { s with lanes := s.lanes.set i l }

def engineOf (s : State) (e : EngineId) : Engine := s.jsc.engines.get e

def setEngine (s : State) (e : EngineId) (x : Engine) : State :=
  { s with jsc := { s.jsc with engines := s.jsc.engines.set e x } }

def contextOf (s : State) (x : StreamId) : Context := s.jsc.contexts.get x

def setContext (s : State) (x : StreamId) (c : Context) : State :=
  { s with jsc := { s.jsc with contexts := s.jsc.contexts.set x c } }

def setJobs (s : State) (jobs : List Job) : State := { s with jsc := { s.jsc with jobs := jobs } }

/-- The slot of transmitted frame `f`: slot F mod 8 (R45). -/
def slotIndex (f : FrameCount) : Fin 8 := Fin.ofNat 8 f.toNat

def slotOf (s : State) (f : FrameCount) : Slot := s.ilm.slots.get (slotIndex f)

/-- Logical frame `f` is still in the slots: slot (F + 7) mod 8 carries tag F + 7 and its whole mark is set (R53). -/
def stillInSlots (s : State) (f : FrameCount) : Bool :=
  (slotOf s (f + 7)).tag == some (f + 7) && (slotOf s (f + 7)).whole

/-- The parcel record of a stream-frame. -/
def recordOf (s : State) (x : StreamId) (f : FrameCount) : Option ParcelRecord :=
  s.pst.records.find? (fun r => r.stream == x && r.frame == f)

/-- Replace the record of a stream-frame by `g` of it. -/
def updateRecord (s : State) (x : StreamId) (f : FrameCount) (g : ParcelRecord → ParcelRecord) : State :=
  { s with pst := { s.pst with records := s.pst.records.map (fun r => if r.stream == x && r.frame == f then g r else r) } }

/-- A record is usable as its copy is (R91, R100). -/
def usableRecord (r : ParcelRecord) : Bool := !unusableCopy r.pass r.saturated

/-- The parcel payload a record holds, read from its pages. -/
def payloadOf (s : State) (r : ParcelRecord) : List Byte := readPages s.pst.pageMem r.pages r.payloadLength

/-- The cursor entry of a stream. -/
def cursorOf (s : State) (x : StreamId) : Option Cursor := s.dlv.cursors.find? (fun c => c.stream == x)

/-- The frame at which a stream's cursor is set. -/
def cursorFrame (s : State) (x : StreamId) : Option FrameCount := (cursorOf s x).bind (·.cursor)

/-- Replace a stream's cursor entry by `g` of it. -/
def updateCursor (s : State) (x : StreamId) (g : Cursor → Cursor) : State :=
  { s with dlv := { s.dlv with cursors := s.dlv.cursors.map (fun c => if c.stream == x then g c else c) } }

/-- The job of a stream-frame. -/
def jobOf (s : State) (x : StreamId) (f : FrameCount) : Option Job :=
  s.jsc.jobs.find? (fun j => j.stream == x && j.frame == f)

/-! ### The transmit queue (R125 to R130) -/

/-- The queue's capacity (R125). -/
abbrev queueLimit : Nat := 24

/-- The most TRACE entries it holds (R128). -/
abbrev traceLimit : Nat := 8

/-- An entry of this kind for this stream-frame. -/
def entryMatches (k : MsgKind) (x : Option StreamId) (f : Option FrameCount) (e : Entry) : Bool :=
  e.kind == k && e.stream == x && e.frame == f

/-- The queue holds an entry of this kind for this stream-frame. -/
def queued (s : State) (k : MsgKind) (x : Option StreamId) (f : Option FrameCount) : Bool :=
  s.lnk.queue.any (entryMatches k x f)

/-- The entry's place: after every entry whose field is not higher (R125). -/
def placeEntry (e : Entry) (q : List Entry) : List Entry := insertBy (fun a b => decide (a.arb < b.arb)) e q

def setQueue (s : State) (q : List Entry) : State := { s with lnk := { s.lnk with queue := q } }

/-- Take out of the queue the entries that `p` holds of; their owners need no telling (R130). -/
def withdraw (s : State) (p : Entry → Bool) : State := setQueue s (s.lnk.queue.filter (fun e => !p e))

/-- Free a parcel record (R101): its timers go with it, a QUEUED record's PARCEL entry is withdrawn, its pages join the
tail of the free-page list in page-list order. An attempt already on the line is not touched. -/
def freeRecord (s : State) (x : StreamId) (f : FrameCount) : State :=
  match recordOf s x f with
  | none => s
  | some r =>
    let s1 := if r.state = .queued then withdraw s (entryMatches .parcel (some x) (some f)) else s
    { s1 with pst := { s1.pst with records := s1.pst.records.filter (fun r => !(r.stream == x && r.frame == f)),
                                   freePages := s1.pst.freePages ++ r.pages } }

/-- Free every record that `p` holds of, in the order in which they were made (R106, R109, R113; the order is a
DESIGN CHOICE, log 57). -/
def freeRecords (s : State) (p : ParcelRecord → Bool) : State :=
  (s.pst.records.filter p).foldl (fun s r => freeRecord s r.stream r.frame) s

/-- The parcel store, told that a PARCEL entry has left the queue, frees its record (R104, R130). -/
def tellStore (s : State) (e : Entry) : State :=
  match e.kind, e.stream, e.frame with
  | .parcel, some x, some f => freeRecord s x f
  | _, _, _ => s

/-- Give an entry its number and put it in its place. -/
def insertNew (s : State) (e : Entry) : State :=
  { s with lnk := { s.lnk with queue := placeEntry { e with uid := s.lnk.nextUid } s.lnk.queue,
                               nextUid := s.lnk.nextUid + 1 } }

/-- Rewrite in place the entry held for the same matter: new body, attempt count 0 (R129). -/
def rewriteHeld (s : State) (e : Entry) : State :=
  setQueue s (s.lnk.queue.map (fun h =>
    if entryMatches e.kind e.stream e.frame h then { h with body := e.body, attempts := 0, rewritten := true } else h))

/-- Offer an entry to the queue (R126, R128, R127 in that order). Answers whether the queue took it (inserted or
rewritten in place). The owner of a displaced PARCEL is told; a displaced MAP is seen to by `offer`. -/
def offerEntry (s : State) (e : Entry) : State × Bool :=
  if s.lnk.state = .offline then (s, false)
  else if queued s e.kind e.stream e.frame then
    match e.kind with
    | .trace => (countTraceDrop (rewriteHeld s e), true)
    | .status => (rewriteHeld s e, true)
    | _ => (s, false)
  else if e.kind = .trace ∧ traceLimit ≤ s.lnk.queue.countP (fun h => h.kind == .trace) then (countTraceDrop s, false)
  else if s.lnk.queue.length < queueLimit then (insertNew s e, true)
  else
    match s.lnk.queue.getLast? with
    | none => (insertNew s e, true)
    | some last =>
      if e.arb < last.arb then
        (tellStore (insertNew (countQueueDrop (setQueue s s.lnk.queue.dropLast)) e) last, true)
      else (countQueueDrop s, false)

/-- A new entry of this station. -/
def newEntry (s : State) (k : MsgKind) (x : Option StreamId) (f : Option FrameCount) (rank : Nat) (b : EntryBody) : Entry :=
  { uid := 0, kind := k, stream := x, frame := f, arb := arbField (classOf k) rank s.mod.straps.station.val, attempts := 0,
    body := b, rewritten := false }

/-! ### MAP notices (R41) -/

/-- The conditions of R41 on everything but the marks. -/
def noticeAllowed (s : State) : Bool :=
  (s.mod.mode == .running || s.mod.mode == .quiescing) && s.lnk.state == .joined && s.maps.holdOff.isNone &&
  !queued s .map none none

/-- The MAP entry of the next or of the current map (R41): rank 16 - entry count (R116). -/
def noticeEntry (s : State) (isNext : Bool) : Entry :=
  let n := noticeOfMap isNext (if isNext then s.maps.next else s.maps.current)
  newEntry s .map none none (16 - n.entryCount) (.map n)

/-- The map unit after its notice has been queued: the map's mark is cleared and the hold-off starts (R41). -/
def noticeSent (s : State) (isNext : Bool) : State :=
  { s with maps := { s.maps with wantCurrent := s.maps.wantCurrent && isNext, wantNext := s.maps.wantNext && !isNext,
                                 holdOff := some (s.now + holdOffTime) } }

/-- Test the conditions of R41 and queue a MAP notice where they hold, the current map's first. A notice that the queue
refuses is not queued: its mark stays set (log 24). -/
def testNotice (s : State) : State :=
  if noticeAllowed s ∧ (s.maps.wantCurrent || s.maps.wantNext) then
    let isNext := !s.maps.wantCurrent
    let r := offerEntry s (noticeEntry s isNext)
    if r.2 then noticeSent r.1 isNext else r.1
  else s

/-- Offer an entry; where that displaced this station's MAP entry, the map unit tests its conditions again (R41). -/
def offer (s : State) (e : Entry) : State × Bool :=
  let r := offerEntry s e
  if queued s .map none none && !queued r.1 .map none none then (testNotice r.1, r.2) else r

/-- Offer an entry whose owner takes no notice of the answer. -/
def offerAnyway (s : State) (e : Entry) : State := (offer s e).1

/-! ### Claims (R147) -/

/-- The three conditions under which a station holds claims (R147). -/
def claimsAllowed (s : State) : Bool :=
  s.mod.mode == .running && s.lnk.state == .joined && (s.ftr.sync == .locked || s.ftr.sync == .holdover)

/-- At the instant a condition of R147 ceases to hold, the claim list is emptied and no review runs until the next
frame start at which all hold again (R149). -/
def settleClaims (s : State) : State :=
  if claimsAllowed s then s else { s with sub := { s.sub with claims := [], claimLoad := 0, claimsOpen := false } }

end Sys2Proof.Machine
end

