-- ==== Sys2Proof/Machine/Delivery.lean ====
section
/-!
DEFINITION. The delivery unit (chapter 9): queuing own copies, cursors, deadlines, resync.
-/

namespace Sys2Proof.Machine

/-! ### Offering own copies (R157) -/

/-- The arbitration rank of a copy, 1023 - score (R116). -/
def copyRank (score : Nat) : Nat := 1023 - score

/-- The carry-in a record is walked with: the cursor's when the cursor is set to its frame, UNKNOWN otherwise (R157). -/
def carryInFor (s : State) (r : ParcelRecord) : Option Nat :=
  match cursorOf s r.stream with
  | some c => if c.cursor = some r.frame then c.carryIn else none
  | none => none

/-- The unit walk of a record's stored payload with a carry-in (R93). -/
def walkRecord (s : State) (r : ParcelRecord) (carryIn : Option Nat) : Walk :=
  unitWalk r.kind (payloadOf s r) r.markers carryIn

/-- The PARCEL entry of a record (R157). -/
def parcelEntry (s : State) (r : ParcelRecord) : Entry :=
  let k := carryInFor s r
  newEntry s .parcel (some r.stream) (some r.frame) (copyRank r.score) (.parcel (carriedIn r.kind k) (walkRecord s r k))

/-- Walk a record and queue its PARCEL: the record becomes QUEUED, or is freed where the entry is refused (R103, R104). -/
def queueParcel (s : State) (r : ParcelRecord) : State :=
  let o := offer s (parcelEntry s r)
  if o.2 then updateRecord o.1 r.stream r.frame (fun r => { r with state := .queued })
  else freeRecord o.1 r.stream r.frame

/-- The cursor test of R103 on a usable record whose offer instant has come: QUEUED where the cursor is UNSET or at the
record's frame, HELD otherwise (a stream with no cursor entry holds it too, R105). -/
def handOver (s : State) (r : ParcelRecord) : State :=
  match cursorOf s r.stream with
  | some c =>
    if c.cursor = none ∨ c.cursor = some r.frame then queueParcel s r
    else updateRecord s r.stream r.frame (fun r => { r with state := .held })
  | none => updateRecord s r.stream r.frame (fun r => { r with state := .held })

/-! ### Answering a deadline (R162, R163) -/

/-- Queue a GAP for a stream-frame. -/
def queueGap (s : State) (x : StreamId) (f : FrameCount) (reason : GapReason) : State :=
  offerAnyway s (newEntry s .gap (some x) (some f) 0 (.gap reason))

/-- An own record of the stream-frame is HELD and unusable. -/
def unusableHeld (s : State) (x : StreamId) (f : FrameCount) : Bool :=
  match recordOf s x f with
  | some r => r.state == .held && !usableRecord r
  | none => false

/-- An own record of the stream-frame is SPEC_HELD. -/
def specHeldRecord (s : State) (x : StreamId) (f : FrameCount) : Bool :=
  match recordOf s x f with
  | some r => r.state == .specHeld
  | none => false

/-- Read this station's own state for a stream-frame and answer it (R162). -/
def answerDeadline (s : State) (x : StreamId) (f : FrameCount) : State :=
  if queued s .parcel (some x) (some f) then s
  else if unusableHeld s x f then freeRecord (queueGap s x f .unusable) x f
  else if (jobOf s x f).isSome || specHeldRecord s x f then queueGap s x f .late
  else queueGap s x f .notDecoded

/-- The modes in which the delivery unit queues no GAP (R162). -/
def gapsSilent (s : State) : Bool := s.mod.mode == .quiescing || s.mod.mode == .quiesced

/-- The expiry of the deadline of a cursor set to `f`: answered unless silent, LAPSED in every case (R162). -/
def expireDeadline (s : State) (x : StreamId) (f : FrameCount) : State :=
  let s1 := if gapsSilent s then s else answerDeadline s x f
  updateCursor s1 x (fun c => { c with deadline := .lapsed })

/-- The release instant of a logical frame in the release list; the latest where a frame stands in it twice (R154). -/
def releaseInstantOf (s : State) (f : FrameCount) : Option Instant :=
  (s.dlv.releaseList.reverse.find? (fun p => p.1 == f)).map (·.2)

/-- Set the deadline state of a cursor set to `f` (R161). At the very instant R(F) + 60 ms the deadline expires at once:
DESIGN CHOICE, log 61. -/
def armDeadline (s : State) (x : StreamId) (f : FrameCount) : State :=
  if !presentFor s.maps x f then updateCursor s x (fun c => { c with deadline := .none })
  else
    match releaseInstantOf s f with
    | none => updateCursor s x (fun c => { c with deadline := .armed })
    | some r =>
      if s.now < r + deadlineTime then updateCursor s x (fun c => { c with deadline := .running (r + deadlineTime) })
      else expireDeadline s x f

/-! ### Cursors -/

/-- Withdraw every own GAP entry of a stream (R155, R159). -/
def withdrawGaps (s : State) (x : StreamId) : State := withdraw s (fun e => e.kind == .gap && e.stream == some x)

/-- Withdraw every own PARCEL and GAP entry of a stream whose frame is not `f`; a withdrawn PARCEL's record is freed
(R104, R159), the records of several in the order of the queue: DESIGN CHOICE, log 57. -/
def withdrawOthers (s : State) (x : StreamId) (f : FrameCount) : State :=
  let others (k : MsgKind) (e : Entry) : Bool := e.kind == k && e.stream == some x && e.frame != some f
  let gone := s.lnk.queue.filter (others .parcel)
  gone.foldl tellStore (withdraw s (fun e => others .parcel e || others .gap e))

/-- Walk again a queued PARCEL of a UNIT stream that was walked with another carry-in than the cursor now has, and
rewrite its entry in place with its attempt count kept (R129, R157). -/
def rewalk (s : State) (x : StreamId) (f : FrameCount) : State :=
  match recordOf s x f with
  | none => s
  | some r =>
    let k := carriedIn r.kind (carryInFor s r)
    setQueue s (s.lnk.queue.map (fun e =>
      if entryMatches .parcel (some x) (some f) e then
        match e.body with
        | .parcel k' _ => if k' = k then e else { e with body := .parcel k (walkRecord s r k), rewritten := true }
        | _ => e
      else e))

/-- Release a usable HELD record of a stream-frame (R105). -/
def releaseHeld (s : State) (x : StreamId) (f : FrameCount) : State :=
  match recordOf s x f with
  | none => s
  | some r => if r.state = .held ∧ usableRecord r then queueParcel s r else s

/-- The cursor arrival at `f` (R160): withdrawals, re-walk, release, arming, in that order. -/
def arriveAt (s : State) (x : StreamId) (f : FrameCount) : State :=
  armDeadline (releaseHeld (rewalk (withdrawOthers s x f) x f) x f) x f

/-- A cursor becomes set to `f` with a carry-in, and arrives there (R158, R160). -/
def setCursor (s : State) (x : StreamId) (f : FrameCount) (carryIn : Option Nat) : State :=
  arriveAt (updateCursor s x (fun c => { c with cursor := some f, carryIn := carryIn, deadline := .none })) x f

/-- A cursor becomes UNSET: carry-in UNKNOWN, deadline NONE, own GAP entries withdrawn (R156, R159, R164). -/
def unsetCursor (s : State) (x : StreamId) : State :=
  withdrawGaps (updateCursor s x (fun c => { c with cursor := none, carryIn := none, deadline := .none })) x

/-- A completed PARCEL or GAP for a stream-frame moves the stream's cursor (R158); `carryOut` is the carry-out of a
PARCEL, UNKNOWN after a GAP. -/
def moveCursor (s : State) (x : StreamId) (f : FrameCount) (carryOut : Option Nat) : State :=
  match cursorOf s x with
  | none => s
  | some c =>
    if c.cursor = some f ∨ (c.cursor = none ∧ !c.absent) then setCursor s x (f + 1) carryOut else s

/-- A stream has a valid position in the current map (R156). -/
def inCurrentMap (s : State) (x : StreamId) : Bool :=
  s.maps.current.state != .none && (s.maps.current.entryOf x).isSome

/-- Make a cursor entry, UNSET, for a stream that has become subscribed (R155). -/
def addCursor (s : State) (x : StreamId) : State :=
  let c : Cursor := { stream := x, cursor := none, carryIn := none, absent := !inCurrentMap s x, deadline := .none }
  { s with dlv := { s.dlv with cursors := insertBy (fun a b => decide (a.stream < b.stream)) c s.dlv.cursors } }

/-- Remove a stream's cursor entry: its own GAP entries are withdrawn and its records freed (R109, R155). -/
def removeCursor (s : State) (x : StreamId) : State :=
  let s1 := withdrawGaps { s with dlv := { s.dlv with cursors := s.dlv.cursors.filter (fun c => c.stream != x) } } x
  freeRecords s1 (fun r => r.stream == x)

/-! ### Reviews -/

/-- The delivery unit's review of one stream at a map-changed notice (R156, R161). -/
def reviewCursor (s : State) (x : StreamId) : State :=
  match cursorOf s x with
  | none => s
  | some c =>
    if !inCurrentMap s x then
      if c.absent then s else unsetCursor (updateCursor s x (fun c => { c with absent := true })) x
    else
      let s1 := updateCursor s x (fun c => { c with absent := false })
      match c.cursor with
      | none => s1
      | some f =>
        if presentFor s.maps x f then if c.deadline = .none then armDeadline s1 x f else s1
        else if c.deadline = .none then s1
        else
          withdraw (updateCursor s1 x (fun c => { c with deadline := .none })) (entryMatches .gap (some x) (some f))

/-- The streams with a cursor entry, in ascending stream id: the order in which reviews take them (DESIGN CHOICE,
log 49). -/
def cursorStreams (s : State) : List StreamId := s.dlv.cursors.map (·.stream)

/-- The review of every cursor at a map-changed notice (R156, R161). -/
def reviewCursors (s : State) : State := (cursorStreams s).foldl reviewCursor s

/-- The resync review at frame start `g`: a cursor more than 15 frames behind becomes UNSET (R164). -/
def resync (s : State) (g : FrameCount) : State :=
  (cursorStreams s).foldl (fun s x =>
    match cursorFrame s x with
    | some f => if 15 < frameDist f g then unsetCursor s x else s
    | none => s) s

/-- At a frame start, a LAPSED deadline whose frame has no own PARCEL and no own GAP queued is answered again (R163). The
cursors are taken in ascending stream id: DESIGN CHOICE, log 49. -/
def repeatLapsed (s : State) : State :=
  (cursorStreams s).foldl (fun s x =>
    match cursorOf s x with
    | some c =>
      match c.cursor with
      | some f =>
        if c.deadline = .lapsed ∧ !gapsSilent s ∧ !queued s .parcel (some x) (some f) ∧ !queued s .gap (some x) (some f)
        then answerDeadline s x f else s
      | none => s
    | none => s) s

/-- A release instant event for `f` (R154, R161): it joins the release list, which keeps 16, and turns ARMED deadlines
of cursors set to `f` into RUNNING. -/
def releaseEvent (s : State) (f : FrameCount) (r : Instant) : State :=
  { s with dlv := { s.dlv with
      releaseList := pushLast 16 s.dlv.releaseList (f, r),
      cursors := s.dlv.cursors.map (fun c =>
        if c.cursor = some f ∧ c.deadline = .armed then { c with deadline := .running (r + deadlineTime) } else c) } }

/-- The delivery unit at a slip (R165): release list emptied, own GAP entries withdrawn, the deadline of a set cursor
whose stream is present for its frame ARMED if it stood ARMED, RUNNING or LAPSED, every other NONE. -/
def slipDelivery (s : State) : State :=
  let rearm (c : Cursor) : Cursor :=
    match c.cursor with
    | some f =>
      if presentFor s.maps c.stream f ∧ c.deadline ≠ .none then { c with deadline := .armed } else { c with deadline := .none }
    | none => { c with deadline := .none }
  let s1 := withdraw s (fun e => e.kind == .gap)
  { s1 with dlv := { s1.dlv with releaseList := [], cursors := s1.dlv.cursors.map rearm } }

end Sys2Proof.Machine
end

