-- ==== Sys2Proof/Machine/Store.lean ====
section
/-!
DEFINITION. The parcel store (chapter 6): making a record, eviction, confirmation, age-out, clears.
-/

namespace Sys2Proof.Machine

/-- The most parcel records held (R100). -/
abbrev recordLimit : Nat := 48

/-! ### Eviction (R110, R111) -/

/-- The frame distance from a record's frame to the current frame (R111). -/
def recordAge (s : State) (r : ParcelRecord) : Nat := frameDist r.frame s.ftr.count

/-- A HELD record whose frame is earlier than its stream's set cursor (R105). -/
def staleRecord (s : State) (r : ParcelRecord) : Bool :=
  r.state == .held &&
  match cursorFrame s r.stream with
  | some c => earlierThan r.frame c
  | none => false

/-- An attempt of the record's PARCEL is on the line (R110). -/
def onTheLine (s : State) (r : ParcelRecord) : Bool :=
  match s.lnk.attempt with
  | some a => a.kind == .parcel && a.stream == some r.stream && a.frame == some r.frame
  | none => false

/-- Step 1: stale records, the earliest frame first, then the lowest stream id. -/
def staleCandidates (s : State) (rs : List ParcelRecord) : List ParcelRecord :=
  sortBy (fun a b => decide (recordAge s b < recordAge s a) ||
    (recordAge s a == recordAge s b && decide (a.stream < b.stream))) (rs.filter (staleRecord s))

/-- Step 2: SPEC_HELD records, the newest frame first, then the highest stream id. -/
def speculativeCandidates (s : State) (rs : List ParcelRecord) : List ParcelRecord :=
  sortBy (fun a b => decide (recordAge s a < recordAge s b) ||
    (recordAge s a == recordAge s b && decide (b.stream < a.stream))) (rs.filter (fun r => r.state == .specHeld))

/-- A WAITING or QUEUED record. -/
def liveRecord (r : ParcelRecord) : Bool := r.state == .waiting || r.state == .queued

/-- Step 3: live records of another stream scoring below the new copy, the lowest score first, then the newest frame,
then the highest stream id. -/
def worseCandidates (s : State) (x : StreamId) (score : Nat) (rs : List ParcelRecord) : List ParcelRecord :=
  sortBy (fun a b => decide (a.score < b.score) ||
    (a.score == b.score && (decide (recordAge s a < recordAge s b) ||
      (recordAge s a == recordAge s b && decide (b.stream < a.stream)))))
    (rs.filter (fun r => liveRecord r && r.stream != x && decide (r.score < score)))

/-- The candidates for a new copy of stream `x` in the order of R111; an unusable copy takes from steps 1 and 2 alone
(R107, R111; log 72). -/
def candidates (s : State) (x : StreamId) (score : Nat) (usable : Bool) : List ParcelRecord :=
  let rs := s.pst.records.filter (fun r => !onTheLine s r)
  staleCandidates s rs ++ speculativeCandidates s rs ++ (if usable then worseCandidates s x score rs else [])

/-- `free` pages and `held` records have room for a copy of `need` pages. -/
def roomFor (need free held : Nat) : Bool := decide (need ≤ free) && decide (held < recordLimit)

/-- Count candidates until there is room; none where all of them do not make it (R110). -/
def chooseVictims (need : Nat) : Nat → Nat → List ParcelRecord → Option (List ParcelRecord)
  | free, held, [] => if roomFor need free held then some [] else none
  | free, held, c :: cs =>
    if roomFor need free held then some []
    else (chooseVictims need (free + c.pages.length) (held - 1) cs).map (c :: ·)

/-! ### Making a record (R102) -/

/-- The offer instant: R(F) + (1023 - score) × 50 µs (R100). -/
def offerInstantOf (release : Instant) (score : Nat) : Instant := release + copyRank score * offerStep

/-- A usable record takes its offer instant, which it keeps (R100). -/
def setOffer (s : State) (r : ParcelRecord) : State :=
  updateRecord s r.stream r.frame (fun r => { r with offerAt := some (offerInstantOf r.release r.score) })

/-- Settle the state of a record that is not speculative (R102, R106): unusable, HELD with its discard instant; usable,
WAITING while its offer instant is still to come, and handed over at once when it has passed (R103), or when it comes at
this very instant (DESIGN CHOICE, log 65). An unusable copy made after its discard instant is HELD, and freed at the
DISCARD_INSTANT that then comes at once: DESIGN CHOICE, log 46. -/
def placeRecord (s : State) (r : ParcelRecord) : State :=
  if !usableRecord r then
    updateRecord s r.stream r.frame (fun r => { r with state := .held, discardAt := some (r.release + discardTime) })
  else if s.now < offerInstantOf r.release r.score then
    updateRecord (setOffer s r) r.stream r.frame (fun r => { r with state := .waiting })
  else handOver (setOffer s r) r

/-- The record of a job's outcome, on the pages given (R100). -/
def recordFrom (j : Job) (o : JobOutcome) (pages : List (Fin 256)) : ParcelRecord :=
  { stream := j.stream, frame := j.frame, changeCount := j.changeCount, kind := j.kind, payloadLength := o.payloadLength,
    score := o.score, pass := o.pass, erased := o.erased, saturated := o.saturated, cold := o.cold,
    speculative := j.speculative, markerOverflow := o.markerOverflow, markers := o.markers, pages := pages,
    release := j.release, state := .specHeld, offerAt := none, discardAt := none }

/-- Fill pages from the head of the free-page list with the parcel bytes and add the record at the tail. -/
def fillRecord (s : State) (j : Job) (o : JobOutcome) : State :=
  let n := pagesFor o.parcel.length
  let pages := s.pst.freePages.take n
  { s with pst := { records := s.pst.records ++ [recordFrom j o pages], freePages := s.pst.freePages.drop n,
                    pageMem := writePages s.pst.pageMem pages o.parcel } }

/-- Free the victims, in the order in which they were counted (DESIGN CHOICE, log 57), and count each live one (R110,
R112). -/
def evict (s : State) (victims : List ParcelRecord) : State :=
  victims.foldl (fun s r =>
    let s1 := freeRecord s r.stream r.frame
    if liveRecord r then countStoreDrop s1 else s1) s

/-- The victims for a job's outcome: none where room cannot be made (R110). An unusable copy, SPEC_HELD-bound or not,
takes room from stale and SPEC_HELD records alone: so R107, where R111 lets a SPEC_HELD-bound copy take all three steps and
an unusable one two (DEDUCED, log 72). -/
def victimsFor (s : State) (j : Job) (o : JobOutcome) : Option (List ParcelRecord) :=
  chooseVictims (pagesFor o.parcel.length) s.pst.freePages.length s.pst.records.length
    (candidates s j.stream o.score (!unusableCopy o.pass o.saturated))

/-- The store is handed a job's outcome (R102). -/
def makeRecord (s : State) (j : Job) (o : JobOutcome) : State :=
  if (recordOf s j.stream j.frame).isSome then countStoreDrop s
  else
    match victimsFor s j o with
    | none => countStoreDrop s
    | some vs =>
      let s1 := fillRecord (evict s vs) j o
      if j.speculative then s1
      else
        match recordOf s1 j.stream j.frame with
        | some r => placeRecord s1 r
        | none => s1

/-! ### Confirmation, resolution, age-out and clears -/

/-- A SPEC_HELD record at confirmation (R106): its SPECULATIVE flag is cleared and it is placed as a new record would
be, but an unusable one whose discard instant has passed, or comes at this very instant (DESIGN CHOICE, log 66), is freed
at once. -/
def confirmRecord (s : State) (x : StreamId) (f : FrameCount) : State :=
  let s1 := updateRecord s x f (fun r => { r with speculative := false })
  match recordOf s1 x f with
  | none => s1
  | some r =>
    if !usableRecord r ∧ r.release + discardTime ≤ s.now then freeRecord s1 x f else placeRecord s1 r

/-- The store at confirmation: every SPEC_HELD record is released, in the order in which they were made (R106; the order
is a DESIGN CHOICE, log 56). -/
def confirmRecords (s : State) : State :=
  (s.pst.records.filter (fun r => r.state == .specHeld)).foldl (fun s r => confirmRecord s r.stream r.frame) s

/-- The store at back-out: every SPEC_HELD record is freed (R106). -/
def dropSpeculative (s : State) : State := freeRecords s (fun r => r.state == .specHeld)

/-- Age-out at frame start `g`: records whose frame is earlier than `g` - 15 are freed (R109). -/
def ageOut (s : State) (g : FrameCount) : State := freeRecords s (fun r => earlierThan r.frame (g - 15))

/-- Every record is freed (R113). -/
def emptyStore (s : State) : State := freeRecords s (fun _ => true)

end Sys2Proof.Machine
end

