-- ==== Sys2Proof/Machine/Subs.lean ====
section
/-!
DEFINITION. The subscription unit (chapter 8): class review, decode set, claims, table changes, adoption, tie-break.
-/

namespace Sys2Proof.Machine

/-- The most subscriptions held (R136). -/
abbrev subscriptionLimit : Nat := 16

/-- At least one entry of a table names the stream (R136). -/
def names (t : List Subscription) (x : StreamId) : Bool := t.any (fun e => e.stream == x)

/-! ### Class review (R140) -/

/-- The streams that have a foreground place, in ascending foreground place. -/
def foregroundOrder (t : List Subscription) : List StreamId :=
  t.foldl (fun xs e => if e.requested = .foreground ∧ !xs.contains e.stream then xs ++ [e.stream] else xs) []

/-- Admit streams in order while the running total stays at 480 or below; the admitted streams and the total. -/
def admitStreams (m : MuxMap) : Nat → List StreamId → List StreamId × Nat
  | total, [] => ([], total)
  | total, x :: xs =>
    if total + m.grainsOf x ≤ loadLimit then
      let r := admitStreams m (total + m.grainsOf x) xs
      (x :: r.1, r.2)
    else admitStreams m total xs

/-- The effective class of an entry, given the admitted streams. -/
def effectiveOf (admitted : List StreamId) (e : Subscription) : EffectiveClass :=
  match e.requested with
  | .background => .background
  | .foreground => if admitted.contains e.stream then .foreground else .demoted

/-- The class review: every entry's effective class and the foreground load, from the table and the current map. -/
def classReview (s : State) : State :=
  let r := admitStreams s.maps.current 0 (foregroundOrder s.sub.table)
  { s with sub := { s.sub with table := s.sub.table.map (fun e => { e with effective := effectiveOf r.1 e }),
                               foregroundLoad := r.2 } }

/-! ### Decode set (R142) -/

/-- A foreground stream: a subscribed stream with an admitted entry (R140). -/
def isForeground (s : State) (x : StreamId) : Bool :=
  s.sub.table.any (fun e => e.stream == x && e.effective == .foreground)

/-- The decode set in the order of R58: foreground streams with a valid position in the current map, ascending, then
the claims, ascending. -/
def decodeSet (s : State) : List (StreamId × JobClass) :=
  ((List.finRange 64).filter (fun x => isForeground s x && inCurrentMap s x)).map (fun x => (x, .foreground)) ++
    s.sub.claims.map (fun x => (x, .background))

/-- At least one entry for the stream has the trace option (R143). -/
def isTraced (s : State) (x : StreamId) : Bool := s.sub.table.any (fun e => e.stream == x && e.trace)

/-- At least one entry for the stream has the units option (R143). -/
def hasUnits (s : State) (x : StreamId) : Bool := s.sub.table.any (fun e => e.stream == x && e.units)

/-! ### Claims (R147 to R150) -/

/-- A stream may be claimed: a background stream with a valid position in the current map (R147). -/
def eligible (s : State) (x : StreamId) : Bool :=
  inCurrentMap s x && names s.sub.table x && !isForeground s x

/-- The grain counts of streams in the current map, summed. -/
def grainSum (s : State) (xs : List StreamId) : Nat := (xs.map s.maps.current.grainsOf).sum

/-- A present peer lists the stream among its claims. -/
def peerClaims (s : State) (x : StreamId) : Bool := s.sub.peers.list.any (fun p => p.isPresent && p.claims.contains x)

/-- Drop the highest stream id while the load exceeds 480; the list is in descending stream id (R148 step 2). -/
def shrinkClaims (s : State) : List StreamId → List StreamId
  | [] => []
  | x :: xs => if loadLimit < s.sub.foregroundLoad + grainSum s (x :: xs) then shrinkClaims s xs else x :: xs

/-- Take the candidates that fit in the spare capacity (R148 step 3): the claims and the spare capacity left. -/
def takeClaims (s : State) : List StreamId → List StreamId → Nat → List StreamId
  | [], claims, _ => claims
  | x :: xs, claims, spare =>
    if s.maps.current.grainsOf x ≤ spare then
      takeClaims s xs (insertId x claims) (spare - s.maps.current.grainsOf x)
    else takeClaims s xs claims spare

/-- The claim list a review leaves (R148). -/
def reviewedClaims (s : State) : List StreamId :=
  let kept := (shrinkClaims s (s.sub.claims.filter (eligible s)).reverse).reverse
  let candidates := (List.finRange 64).filter (fun x => eligible s x && !kept.contains x && !peerClaims s x)
  takeClaims s candidates kept (loadLimit - s.sub.foregroundLoad - grainSum s kept)

/-- Set the claim list, and the claim load with it. -/
def setClaims (s : State) (xs : List StreamId) : State :=
  { s with sub := { s.sub with claims := xs, claimLoad := grainSum s xs } }

/-- A claim review, where R147 and R149 allow one (R148). -/
def claimReview (s : State) : State :=
  if claimsAllowed s && s.sub.claimsOpen then setClaims s (reviewedClaims s) else s

/-- The claim review of a frame start, which is also the first one once the conditions of R147 hold (R149). -/
def openClaims (s : State) : State :=
  claimReview { s with sub := { s.sub with claimsOpen := claimsAllowed s } }

/-- The tie-break with peer `p` (R150): a higher-numbered station drops each claim that the peer lists too, and a claim
review follows. -/
def tieBreak (s : State) (p : Station) : State :=
  let mine := s.sub.claims.filter (fun x => !(s.sub.peers.get p).claims.contains x)
  if p.val < s.mod.straps.station.val ∧ mine ≠ s.sub.claims then claimReview (setClaims s mine) else s

/-! ### Table changes (R137 to R139, R151) -/

/-- Give the table its new content and carry the change through: class review, cursor entries of streams that became
subscribed or ceased to be, claim review (R139). Several streams that cease to be subscribed are removed in ascending
stream id (R155): DESIGN CHOICE, log 57. -/
def tableChange (s : State) (t : List Subscription) : State :=
  let s1 := classReview { s with sub := { s.sub with table := t } }
  let fresh := (List.finRange 64).filter (fun x => names t x && (cursorOf s x).isNone)
  let gone := (cursorStreams s).filter (fun x => !names t x)
  claimReview (gone.foldl removeCursor (fresh.foldl addCursor s1))

/-- The entry that names this stream and consumer. -/
def sameParty (x : StreamId) (c : Byte) (e : Subscription) : Bool := e.stream == x && e.consumer == c

/-- A SUBSCRIBE applied (R137). -/
def applySubscribe (s : State) (e : Subscription) : State :=
  match s.sub.table.find? (sameParty e.stream e.consumer) with
  | some h =>
    if h.requested = e.requested ∧ h.trace = e.trace ∧ h.units = e.units then s
    else tableChange s (s.sub.table.map (fun h => if sameParty e.stream e.consumer h then e else h))
  | none => if s.sub.table.length < subscriptionLimit then tableChange s (s.sub.table ++ [e]) else s

/-- A RELEASE applied (R138). -/
def applyRelease (s : State) (x : StreamId) (c : Byte) : State :=
  if s.sub.table.any (sameParty x c) then tableChange s (s.sub.table.filter (fun h => !sameParty x c h)) else s

/-- A subscription of a peer's list may be adopted after those already taken (R151). -/
def adoptableSubscription (taken : List Subscription) (e : Subscription) : Bool :=
  decide (4 ≤ e.consumer.toNat ∧ e.consumer.toNat ≤ 7) && !taken.any (sameParty e.stream e.consumer)

/-- The subscriptions of a peer's list that are adopted, in the peer's order. -/
def adoptedTable (l : List Subscription) : List Subscription :=
  l.foldl (fun t e => if adoptableSubscription t e then t ++ [e] else t) []

/-- The adoption mark becomes SPENT (R151). -/
def spendMark (s : State) : State := { s with sub := { s.sub with armed := false } }

/-- The adoption of R151: the table is replaced by the peer's list, each subscription refused counts as a control
error, the mark becomes SPENT, and the table change follows. -/
def adoptSubscriptions (s : State) (l : List Subscription) : State :=
  let t := adoptedTable l
  tableChange (spendMark (times countControlError (l.length - t.length) s)) t

/-! ### Peers (R144 to R146) -/

/-- A peer that has aged out: absent, with no claims and no subscriptions (R146). -/
def Peer.gone (q : Peer) : Peer := { q with isPresent := false, claims := [], subs := [], aging := none }

/-- Replace a position of the peer table. -/
def setPeer (s : State) (p : Station) (q : Peer) : State := { s with sub := { s.sub with peers := s.sub.peers.set p q } }

end Sys2Proof.Machine
end

