-- ==== Sys2Proof/Machine/Jobs.lean ====
section
/-!
DEFINITION. The job scheduler, the engines and the context table (chapter 4), with the span read of the interleave
memory (R50 to R52).
-/

namespace Sys2Proof.Machine

/-- The most jobs held (R57). -/
abbrev jobLimit : Nat := 32

/-! ### Job states (R61) -/

/-- RUNNING or FINISHING. -/
def underWay (j : Job) : Bool := j.state == .running || j.state == .finishing

/-- The state of a job that is not under way, given the other jobs of the table (R61). -/
def readiness (jobs : List Job) (j : Job) : JobState :=
  if jobs.any (fun o => o.stream == j.stream && o.frame != j.frame && (earlierThan o.frame j.frame || underWay o))
  then .waiting else .ready

/-- Test every waiting or ready job again (R61). -/
def retest (s : State) : State :=
  setJobs s (s.jsc.jobs.map (fun j => if underWay j then j else { j with state := readiness s.jsc.jobs j }))

/-- Replace the job of a stream-frame by `g` of it. -/
def updateJob (s : State) (x : StreamId) (f : FrameCount) (g : Job → Job) : State :=
  setJobs s (s.jsc.jobs.map (fun j => if j.stream == x && j.frame == f then g j else j))

/-! ### Contexts and engines (R64, R67, R68) -/

/-- No engine but `keep` holds the stream's context any longer: it is dropped unsaved (R69, R78). An engine that is
saving it stays in its save to the save's instant: DESIGN CHOICE, log 55. -/
def dropHolders (s : State) (x : StreamId) (keep : Option EngineId) : State :=
  (List.finRange 3).foldl (fun s e =>
    if some e ≠ keep ∧ (engineOf s e).held = some x then setEngine s e { engineOf s e with held := none, dirty := false }
    else s) s

/-- Set a context's location. -/
def locate (s : State) (x : StreamId) (l : Location) : State := setContext s x { contextOf s x with location := l }

/-- A context becomes COLD with location TABLE; its next frame keeps its value (R80, R82). -/
def coldContext (c : Context) : Context := { c with warm := false, location := .table }

/-- The cells of a logical frame of a stream, as the slots stand (R50 to R52). -/
def spanRead (s : State) (f : FrameCount) (start grains : Nat) : List Cell :=
  (List.range (grains * 96)).map (fun i =>
    let g : FrameCount := f + BitVec.ofNat 12 (5 * (i % 8) % 8)
    let slot := slotOf s g
    let p := start * 96 + i
    if slot.tag = some g ∧ slot.received then cellOf (slot.cells.getD (p / 8) erasedWord) (p % 8) else erasure)

/-- The checkpoint copy, taken as the first speculative job of a PENDING stream begins decoding (R75). -/
def takeCheckpoint (s : State) (j : Job) : State :=
  let c := contextOf s j.stream
  if j.speculative ∧ c.checkpoint = .pending then
    setContext s j.stream { c with checkpoint := .held { next := c.next, metrics := c.metrics, warm := c.warm } }
  else s

/-- An engine's taking step is complete: checkpoint copy, span read, decoding for grains × 0.45 ms (R70, R75). -/
def beginDecoding (s : State) (e : EngineId) (j : Job) : State :=
  let s1 := takeCheckpoint s j
  setEngine s1 e { engineOf s1 e with phase := .decoding (s1.now + j.grains * grainTime),
                                      span := spanRead s1 j.frame j.start j.grains }

/-- The job an engine is BUSY with. -/
def engineJob (s : State) (e : EngineId) : Option Job :=
  match (engineOf s e).job with
  | some (x, f) => jobOf s x f
  | none => none

/-- The engine that will give a context by transfer to engine `e`. -/
def giverFor (s : State) (e : EngineId) : Option EngineId :=
  (List.finRange 3).find? (fun g => (engineOf s g).phase == .sendWait e)

/-- Engine `e` takes its job's context, its giving step being complete (R68). A stream whose context RESUME has taken
from the engine is decoded without one being located in it (log 22). A transfer whose giver RESUME has left nothing to
give still runs its 0.3 ms: DESIGN CHOICE, log 64. -/
def takeContext (s : State) (e : EngineId) (j : Job) : State :=
  let x := j.stream
  let en := engineOf s e
  match j.source with
  | .warmHeld => beginDecoding s e j
  | .cold =>
    if en.dropAtEnd then beginDecoding s e j
    else
      let s1 := dropHolders s x (some e)
      let s2 := setContext s1 x { contextOf s1 x with warm := false, location := .engine e }
      beginDecoding (setEngine s2 e { engineOf s2 e with held := some x, dirty := false }) e j
  | .transferred =>
    match giverFor s e with
    | some g =>
      let s1 := setEngine s g { engineOf s g with phase := .sending e }
      setEngine s1 e { engineOf s1 e with phase := .receiving g (s.now + transferTime) }
    | none => setEngine s e { en with phase := .loading (s.now + tableMoveTime) }
  | .warmTable =>
    match (contextOf s x).location with
    | .engine n =>
      if n = e then setEngine s e { en with phase := .loading (s.now + tableMoveTime) }
      else setEngine s e { en with phase := .loadWait n }
    | .table => setEngine s e { en with phase := .loading (s.now + tableMoveTime) }

/-- The engine whose job of this round takes the stream's context by transfer. -/
def transferTaker (s : State) (round : List EngineId) (x : StreamId) : Option EngineId :=
  round.find? (fun e => match engineJob s e with
    | some j => j.stream == x && j.source == .transferred
    | none => false)

/-- A job of this round starts the stream COLD. -/
def startsCold (s : State) (round : List EngineId) (x : StreamId) : Bool :=
  round.any (fun e => match engineJob s e with
    | some j => j.stream == x && j.source == .cold
    | none => false)

/-- Engine `e` drops its held context, which takes no time: its location becomes TABLE (R68). -/
def dropHeld (s : State) (e : EngineId) (x : StreamId) : State :=
  let s1 := setEngine s e { engineOf s e with held := none, dirty := false }
  if (contextOf s x).location = .engine e then locate s1 x .table else s1

/-- The giving step of engine `e` in the round that assigned it, and its taking step where the giving takes no time
(R68). -/
def beginMoves (round : List EngineId) (s : State) (e : EngineId) : State :=
  match engineJob s e with
  | none => s
  | some j =>
    match (engineOf s e).held with
    | none => takeContext s e j
    | some x =>
      if x = j.stream then takeContext s e j
      else
        match transferTaker s round x with
        | some t => setEngine s e { engineOf s e with phase := .sendWait t }
        | none =>
          if !startsCold s round x ∧ (engineOf s e).dirty then
            setEngine s e { engineOf s e with phase := .saving (s.now + tableMoveTime) }
          else takeContext (dropHeld s e x) e j

/-! ### The issue round (R65, R66, R69) -/

/-- The order of preference of R65. -/
def preferred (s : State) (a b : Job) : Bool :=
  let da := frameDist a.frame s.ftr.count
  let db := frameDist b.frame s.ftr.count
  decide (db < da) || (da == db &&
    ((a.cls == .foreground && b.cls == .background) || (a.cls == b.cls && decide (a.stream < b.stream))))

/-- The READY jobs that may be given an engine, the most preferred first. -/
def readyJobs (s : State) : List Job :=
  sortBy (preferred s) (s.jsc.jobs.filter (fun j => j.state == .ready &&
    !s.jsc.jobs.any (fun o => o.stream == j.stream && underWay o)))

def isIdle (en : Engine) : Bool := en.job.isNone

/-- The engine for a job of stream `x`: an IDLE one that holds its context, otherwise the lowest-numbered IDLE one
(R66). An engine assigned in the round is no longer IDLE. -/
def chooseEngine (s : State) (x : StreamId) : Option EngineId :=
  let idle := (List.finRange 3).filter (fun e => isIdle (engineOf s e))
  match idle.find? (fun e => (engineOf s e).held == some x) with
  | some e => some e
  | none => idle.head?

/-- How the context of a job starts on engine `e` (R69). -/
def contextSource (s : State) (round : List EngineId) (j : Job) (e : EngineId) : ContextSource :=
  let c := contextOf s j.stream
  if c.warm = false ∨ c.next ≠ j.frame then .cold
  else
    match c.location with
    | .table => .warmTable
    | .engine n => if n = e then .warmHeld else if round.contains n then .transferred else .warmTable

/-- Give engines to READY jobs, at most `n` of them; the engines assigned so far are in `round`. -/
def assign : Nat → State → List EngineId → State × List EngineId
  | 0, s, round => (s, round)
  | n + 1, s, round =>
    match (readyJobs s).head? with
    | none => (s, round)
    | some j =>
      match chooseEngine s j.stream with
      | none => (s, round)
      | some e =>
        let src := contextSource s round j e
        let s1 := updateJob s j.stream j.frame
          (fun j => { j with state := .running, engine := e, source := src, started := s.now })
        assign n (setEngine s1 e { engineOf s1 e with job := some (j.stream, j.frame), dropAtEnd := false })
          (round ++ [e])

/-- An issue round: engines are given, then each begins its moves. None is held in DRAINING and QUIESCED (R65). -/
def issueRound (s : State) : State :=
  if s.mod.mode = .draining ∨ s.mod.mode = .quiesced then s
  else
    let r := assign 3 s []
    r.2.foldl (beginMoves r.2) r.1

/-- What every change of the job table ends with: the remaining jobs are tested again (R61) and a round is held (R65). -/
def settleJobs (s : State) : State := issueRound (retest s)

/-! ### Checkpoint requests (R33, R59, R75) -/

/-- Open a checkpoint request for a stream, unless the marker holds it already. -/
def openCheckpoint (s : State) (x : StreamId) : State :=
  let m := s.maps.marker.getD { changeFrame := s.maps.next.changeFrame, streams := [] }
  if m.streams.contains x then s
  else
    let c := contextOf s x
    let entry := match c.checkpoint with
      | .restoring k _ => Checkpoint.restoring k true
      | _ => Checkpoint.pending
    let s1 := setContext s x { c with checkpoint := entry }
    { s1 with maps := { s1.maps with marker := some { m with streams := insertId x m.streams } } }

/-! ### Creating jobs (R58, R60, R63, R79) -/

/-- Create a job for a stream-frame from the applicable map; nothing where the stream is absent from it, the job exists
or the table is full (R58, R60). -/
def createJob (s : State) (x : StreamId) (cls : JobClass) (f : FrameCount) (release : Instant) : State :=
  let m := applicable s.maps f
  match m.entryOf x with
  | none => s
  | some en =>
    if (jobOf s x f).isSome ∨ jobLimit ≤ s.jsc.jobs.length then s
    else
      let spec := nextApplies s.maps f
      let s1 := if spec then openCheckpoint s x else s
      let j : Job := { stream := x, frame := f, changeCount := m.count, start := en.start, grains := en.grains,
                       profile := en.profile, kind := en.kind, cls := cls, speculative := spec, discard := false,
                       release := release, state := .waiting, engine := 0, source := .cold, started := 0, putOff := false }
      setJobs s1 (s1.jsc.jobs ++ [{ j with state := readiness s1.jsc.jobs j }])

/-- The stream's cursor is set and later than `f` (R63, R79). -/
def cursorPast (s : State) (x : StreamId) (f : FrameCount) : Bool :=
  match cursorFrame s x with
  | some c => laterThan c f
  | none => false

/-- The modes in which jobs are created (R58, R63). -/
def creating (s : State) : Bool := s.mod.mode == .running || s.mod.mode == .restarting

/-- Jobs of one frame at its payload end, in the order of R58. -/
def createFrame (s : State) (f : FrameCount) (release : Instant) : State :=
  (decodeSet s).foldl (fun s p => createJob s p.1 p.2 f release) s

/-- Jobs of one frame, streams whose cursor is past it left out (R63). -/
def createMissed (s : State) (f : FrameCount) (release : Instant) : State :=
  (decodeSet s).foldl (fun s p => if cursorPast s p.1 f then s else createJob s p.1 p.2 f release) s

/-- Re-create a stream-frame: put off while its discarded job is still in the table (R79), whether the applicable map holds
the stream being tested as that job leaves: DESIGN CHOICE, log 19. -/
def recreateJob (s : State) (x : StreamId) (cls : JobClass) (f : FrameCount) (release : Instant) : State :=
  if cursorPast s x f then s
  else
    match jobOf s x f with
    | some j => if j.discard then updateJob s x f (fun j => { j with putOff := true }) else s
    | none => createJob s x cls f release

/-- The release instant of logical frame `f` from the arrival record: A(F+7) + 72 ms (R57). -/
def recordedRelease (s : State) (f : FrameCount) : Option Instant :=
  (s.jsc.arrivals.find? (fun a => a.1 == f + 7)).map (fun a => a.2 + framePeriod)

/-- The logical frames whose A(F+7) the arrival record holds, in order (R57). -/
def recordedFrames (s : State) : List FrameCount := s.jsc.arrivals.map (fun a => a.1 - 7)

/-- Run a creation over the recorded frames that `p` holds of, that are still in the slots and whose applicable map is
usable. -/
def createOver (s : State) (p : FrameCount → Bool) (create : State → FrameCount → Instant → State) : State :=
  (recordedFrames s).foldl (fun s f =>
    match recordedRelease s f with
    | some r => if p f && stillInSlots s f && (applicable s.maps f).usable then create s f r else s
    | none => s) s

/-- The walk of R63 from frame `d` onward, up to and including the latest logical frame recorded, comes to frame `f`. It
goes by the count alone, so that it ends at the latest frame however far back `d` lies (DEDUCED, log 52). -/
def walked (s : State) (d f : FrameCount) : Bool :=
  match (recordedFrames s).getLast? with
  | some latest => decide (frameDist d f ≤ frameDist d latest)
  | none => false

/-- Catch-up from the deferred-from frame `d` (R63). -/
def catchUp (s : State) (d : FrameCount) : State :=
  if creating s then settleJobs (createOver s (walked s d) createMissed) else s

/-- The restart pass (R81). -/
def restartPass (s : State) : State :=
  if creating s then settleJobs (createOver s (fun _ => true) createMissed) else s

/-- Re-create the stream-frames of one frame, in the order of R58 (R79). -/
def recreateFrame (s : State) (f : FrameCount) (release : Instant) : State :=
  (decodeSet s).foldl (fun s p => recreateJob s p.1 p.2 f release) s

/-- Re-creation after a back-out, from change frame `c` onward (R79). -/
def recreateFrom (s : State) (c : FrameCount) : State :=
  if creating s then
    settleJobs (createOver s (fun f => atOrAfter f c) recreateFrame)
  else settleJobs s

/-- The re-creation that R79 put off, once the discarded job has left the table (log 19). -/
def recreatePutOff (s : State) (x : StreamId) (f : FrameCount) : State :=
  match (decodeSet s).find? (fun p => p.1 == x), recordedRelease s f with
  | some p, some r =>
    if creating s && stillInSlots s f && (applicable s.maps f).usable && !cursorPast s x f
    then createJob s x p.2 f r else s
  | _, _ => s

/-! ### Payload ends (R58, R62) -/

/-- Expiry: WAITING and READY jobs whose frames are no longer still in the slots leave the table (R62). -/
def expire (s : State) : State := setJobs s (s.jsc.jobs.filter (fun j => underWay j || stillInSlots s j.frame))

/-- The map unit records a deferral of `f` on the map that applies to it (R32). The outgoing map takes none (R37). -/
def defer (s : State) (f : FrameCount) : State :=
  let first (m : MuxMap) : MuxMap := { m with deferred := some (m.deferred.getD f) }
  if nextApplies s.maps f then { s with maps := { s.maps with next := first s.maps.next } }
  else
    match s.maps.outgoing with
    | some o =>
      if earlierThan f o.changeFrame then s else { s with maps := { s.maps with current := first s.maps.current } }
    | none => { s with maps := { s.maps with current := first s.maps.current } }

/-- The arrival record takes A(`g`), the present instant (R57). -/
def noteArrival (s : State) (g : FrameCount) : State :=
  { s with jsc := { s.jsc with arrivals := pushLast 8 s.jsc.arrivals (g, s.now) } }

/-- Jobs for logical frame `f` are created, or the frame is deferred where its applicable map is not usable (R32, R58). -/
def createOrDefer (s : State) (f : FrameCount) : State :=
  if (applicable s.maps f).usable then createFrame s f (s.now + framePeriod) else defer s f

/-- The job scheduler at payload end A(`g`), the whole mark of its slot being `whole` (R58): expiry, the arrival record,
creation or deferral for logical frame `g` - 7, issue round. -/
def jobsAtPayloadEnd (s : State) (g : FrameCount) (whole : Bool) : State :=
  let s1 := noteArrival (expire s) g
  settleJobs (if whole && creating s1 then createOrDefer s1 (g - 7) else s1)

/-! ### Back-out and confirmation (R76 to R78) -/

/-- Restore a stream of the checkpoint marker (R78). A stream still RESTORING from an earlier back-out keeps the restore
that waits, and a request opened again meanwhile is withdrawn with it: DESIGN CHOICE, log 44. -/
def restoreStream (s : State) (x : StreamId) : State :=
  let c := contextOf s x
  match c.checkpoint with
  | .held k =>
    if s.jsc.jobs.any (fun j => j.stream == x && underWay j) then
      setContext s x { c with checkpoint := .restoring k false }
    else
      setContext (dropHolders s x none) x
        { next := k.next, metrics := k.metrics, warm := k.warm, location := .table, checkpoint := .none }
  | .pending => setContext s x { c with checkpoint := .none }
  | .restoring k _ => setContext s x { c with checkpoint := .restoring k false }
  | .none => s

/-- The job scheduler's part of a back-out, but for the re-creation (R77). -/
def undoSpeculation (s : State) (streams : List StreamId) : State :=
  let s1 := setJobs s ((s.jsc.jobs.filter (fun j => underWay j || !j.speculative)).map
    (fun j => if j.speculative then { j with discard := true } else j))
  streams.foldl restoreStream (dropSpeculative s1)

/-- Confirmation: speculative marks are cleared, PENDING and HELD entries become NONE (R75, R76). -/
def confirmJobs (s : State) : State :=
  let settle (c : Context) : Context :=
    match c.checkpoint with
    | .pending | .held _ => { c with checkpoint := .none }
    | _ => c
  { s with jsc := { s.jsc with jobs := s.jsc.jobs.map (fun j => { j with speculative := false }),
                               contexts := s.jsc.contexts.update settle } }

/-! ### Stops (R80 to R82) -/

/-- Every engine is stopped, the job table emptied, every context COLD in the table with no checkpoint (R80, R81). -/
def stopEngines (s : State) : State :=
  { s with jsc := { s.jsc with jobs := [], engines := .replicate 3 .reset,
                               contexts := s.jsc.contexts.update (fun c => { coldContext c with checkpoint := .none }) } }

/-- The arrival record is emptied (R57). -/
def emptyArrivals (s : State) : State := { s with jsc := { s.jsc with arrivals := [] } }

/-- Every engine is IDLE. -/
def allIdle (s : State) : Bool := s.jsc.engines.list.all isIdle

/-- Engines idle is reported while the mode is QUIESCING, and QUIESCED is offered (R82, R181). -/
def reportIdle (s : State) : State :=
  if s.mod.mode = .quiescing ∧ allIdle s then offerAnyway s (newEntry s .quiesced none none 0 .empty) else s

/-- At QUIESCE: WAITING and READY jobs are removed, the others are marked for discard (R82). -/
def quiesceJobs (s : State) : State :=
  setJobs s ((s.jsc.jobs.filter underWay).map (fun j => { j with discard := true, putOff := false }))

/-- At RESUME: every context COLD in the table, engines give up what they hold, a BUSY one keeps nothing (R82). -/
def resumeContexts (s : State) : State :=
  { s with jsc := { s.jsc with
      engines := s.jsc.engines.update (fun en => { en with held := none, dirty := false, dropAtEnd := !isIdle en }),
      contexts := s.jsc.contexts.update coldContext } }

/-! ### Moves and decoding as they complete (R68, R70) -/

/-- Engines that wait to load the context that engine `e` has saved begin their loads (R68). -/
def wakeLoaders (s : State) (e : EngineId) : State :=
  (List.finRange 3).foldl (fun s w =>
    if (engineOf s w).phase = .loadWait e then setEngine s w { engineOf s w with phase := .loading (s.now + tableMoveTime) }
    else s) s

/-- The context of `j` stands in engine `e`, with dirty mark `dirty`; nothing is located where RESUME has taken it. -/
def holdContext (s : State) (e : EngineId) (j : Job) (dirty : Bool) : State :=
  if (engineOf s e).dropAtEnd then s
  else locate (setEngine s e { engineOf s e with held := some j.stream, dirty := dirty }) j.stream (.engine e)

/-- The save of engine `e`'s held context is complete: it is in the table, the loads that waited for it begin, and the
engine takes its job's context (R68). -/
def saveDone (s : State) (e : EngineId) (j : Job) : State :=
  let s1 := match (engineOf s e).held with
    | some x => dropHeld s e x
    | none => s
  takeContext (wakeLoaders s1 e) e j

/-- The transfer from engine `g` into engine `e` is complete: `e` begins decoding, and `g` takes its own context (R68). -/
def transferDone (s : State) (e g : EngineId) (j : Job) : State :=
  let s1 := holdContext s e j (engineOf s g).dirty
  let s2 := beginDecoding (setEngine s1 g { engineOf s1 g with held := none, dirty := false }) e j
  match engineJob s2 g with
  | some k => takeContext s2 g k
  | none => s2

/-- The save, load or transfer into engine `e` is complete (R68). -/
def completeMove (s : State) (e : EngineId) : State :=
  match engineJob s e with
  | none => s
  | some j =>
    match (engineOf s e).phase with
    | .saving t => if s.now < t then s else saveDone s e j
    | .receiving g t => if s.now < t then s else transferDone s e g j
    | .loading t => if s.now < t then s else beginDecoding (holdContext s e j false) e j
    | _ => s

/-! ### Retirement (R72, R73) -/

/-- The parcel is dropped as late (R73). -/
def isLate (s : State) (j : Job) : Bool :=
  j.discard ||
  match cursorOf s j.stream with
  | none => true
  | some c =>
    match c.cursor with
    | some g => earlierThan j.frame g
    | none => false

/-- The TRACE entry of a retired job (R171). -/
def traceEntry (s : State) (j : Job) (o : JobOutcome) : Entry :=
  newEntry s .trace (some j.stream) (some j.frame) 0 (.trace
    { engine := j.engine, score := o.score, pass := o.pass, erased := o.erased, saturated := o.saturated, cold := o.cold,
      markerOverflow := o.markerOverflow, source := o.source, decodeTime := o.decodeTime })

/-- The outcome of a job goes to the store, or is dropped as late (R73). -/
def dispose (s : State) (j : Job) (o : JobOutcome) : State :=
  if isLate s j then countLateParcel s else makeRecord s j o

/-- A traced stream's TRACE is offered (R72, R171). -/
def offerTrace (s : State) (j : Job) (o : JobOutcome) : State :=
  if isTraced s j.stream then offerAnyway s (traceEntry s j o) else s

/-- A job leaves the table, and its engine becomes IDLE (R72). -/
def leaveTable (s : State) (e : EngineId) (j : Job) : State :=
  let s1 := setJobs s (s.jsc.jobs.filter (fun k => !(k.stream == j.stream && k.frame == j.frame)))
  setEngine s1 e { engineOf s1 e with job := none, phase := .idle, span := [], dropAtEnd := false }

/-- A FINISHING job is retired (R72): its outcome goes to the store or is dropped as late, its TRACE is offered, it
leaves the table, its engine becomes IDLE, a put-off re-creation follows, and the remaining jobs are tested. -/
def retire (s : State) (e : EngineId) (j : Job) (o : JobOutcome) : State :=
  let s1 := leaveTable (offerTrace (dispose s j o) j o) e j
  settleJobs (reportIdle (if j.putOff then recreatePutOff s1 j.stream j.frame else s1))

/-- The trellis state an engine ends in, as 64 path metrics (log 28). -/
def fitMetrics (ms : List Nat) : List Nat := (ms ++ List.replicate 64 0).take 64

/-- The context at the end of decoding (R70, R78, R82): a waiting restore takes the copy, also where RESUME has taken the
context away meanwhile (DESIGN CHOICE, log 63); without one, a context that RESUME has taken away stays COLD (log 22);
otherwise it is WARM, next frame F+1, dirty in this engine. -/
def advanceContext (s : State) (e : EngineId) (j : Job) (metrics : List Nat) : State :=
  let c := contextOf s j.stream
  let en := engineOf s e
  match c.checkpoint with
  | .restoring k reopened =>
    setContext (setEngine s e { en with held := none, dirty := false }) j.stream
      { next := k.next, metrics := k.metrics, warm := k.warm, location := .table,
        checkpoint := if reopened then .pending else .none }
  | _ =>
    if en.dropAtEnd then setContext (setEngine s e { en with held := none, dirty := false }) j.stream (coldContext c)
    else
      setContext (setEngine s e { en with held := some j.stream, dirty := true }) j.stream
        { c with next := j.frame + 1, metrics := fitMetrics metrics, warm := true, location := .engine e }

/-- The end of an engine's decoding (R70): outcome, context, retirement. -/
def endDecoding (s : State) (e : EngineId) (found : Decoded) : State :=
  match engineJob s e, (engineOf s e).phase with
  | some j, .decoding t =>
    if s.now < t then s
    else
      let o := outcomeOf j (engineOf s e).span found s.now
      retire (advanceContext (updateJob s j.stream j.frame (fun j => { j with state := .finishing })) e j found.metrics) e j o
  | _, _ => s

end Sys2Proof.Machine
end

