-- ==== Sys2Proof/Machine/MapUnit.lean ====
section
/-!
DEFINITION. The map unit's decisions (chapter 2): notices to its neighbours, confirmation, back-out, change-over
evidence, own FRAME and STREAM records, MAP notices heard.
-/

namespace Sys2Proof.Machine

def setMaps (s : State) (u : MapUnit) : State := { s with maps := u }

def setCurrent (s : State) (m : MuxMap) : State := setMaps s { s.maps with current := m }

def setNext (s : State) (m : MuxMap) : State := setMaps s { s.maps with next := m }

/-! ### Notices to the neighbours (R31) -/

/-- A notice-wanted mark is cleared when its map ceases to be COMPLETE with source OWN (R40). It stands where another
such map takes that map's place: DESIGN CHOICE, log 54. -/
def trimMarks (s : State) : State :=
  setMaps s { s.maps with wantCurrent := s.maps.wantCurrent && s.maps.current.ownComplete,
                          wantNext := s.maps.wantNext && s.maps.next.ownComplete }

/-- The map-changed notice (R31): class review and claim review (R141), then the review of the cursors (R156, R161). -/
def mapChanged (s : State) : State := reviewCursors (claimReview (classReview (trimMarks s)))

/-- The map-ready notice of the current map: it is usable and its deferred-from frame is set (R31). -/
def currentReady (s : State) : State :=
  match s.maps.current.deferred with
  | some d =>
    if s.maps.current.usable then catchUp (setCurrent s { s.maps.current with deferred := none }) d else s
  | none => s

/-- The map-ready notice of the next map. -/
def nextReady (s : State) : State :=
  match s.maps.next.deferred with
  | some d => if s.maps.next.usable then catchUp (setNext s { s.maps.next with deferred := none }) d else s
  | none => s

/-- What every change to the maps ends with (R31). -/
def settleMaps (s : State) : State := nextReady (currentReady (mapChanged s))

/-! ### Confirmation (R37, R39) -/

/-- The frame start of `f` or of a later frame has been issued, as the last one issued shows (R39; DEDUCED, log 17). -/
def startIssued (s : State) (f : FrameCount) : Bool :=
  match s.ftr.lastStart with
  | some g => atOrAfter g f
  | none => false

/-- The former current map as outgoing map with change frame `c`, or none where the frame start of `c` + 15 or of a
later frame has been issued (R39). A former current map in state NONE is held like any other: DEDUCED, log 42. -/
def outgoingFrom (s : State) (c : FrameCount) : Option MuxMap :=
  if startIssued s (c + 15) then none
  else some { s.maps.current with changeFrame := c, deferred := none }

/-- Confirmation of the change-over (R37). -/
def confirm (s : State) : State :=
  let c := s.maps.next.changeFrame
  let s1 := setMaps s { s.maps with current := s.maps.next, next := .empty, outgoing := outgoingFrom s c, marker := none,
                                    wantNext := false }
  settleMaps (confirmRecords (confirmJobs s1))

/-! ### Back-out (R38) -/

/-- What becomes of the next map at a back-out. -/
inductive Settlement where
  /-- kept, at this change frame -/
  | keepAt (c : FrameCount)
  /-- it becomes NONE -/
  | drop
  /-- replaced by an adopted or changed map (R43, R44) -/
  | replace (m : MuxMap)
  deriving DecidableEq, Repr

/-- The next map as a back-out leaves it; its deferred-from frame becomes none (R38). -/
def settledNext (m : MuxMap) : Settlement → MuxMap
  | .keepAt c => { m with changeFrame := c, deferred := none }
  | .drop => .empty
  | .replace m' => { m' with deferred := none }

/-- Back-out (R38): the speculative work first where the checkpoint marker is held, then the next map, then the
re-creation of jobs, then the notices. A map adopted or changed by its cause is in place before the re-creation, which
is made under it: DESIGN CHOICE, log 43. -/
def backOut (s : State) (how : Settlement) : State :=
  match s.maps.marker with
  | some m =>
    let s1 := undoSpeculation s m.streams
    let s2 := setMaps s1 { s1.maps with marker := none, next := settledNext s1.maps.next how }
    settleMaps (recreateFrom s2 m.changeFrame)
  | none => settleMaps (setNext s (settledNext s.maps.next how))

/-! ### Change-over evidence (R35, R36) -/

/-- The record of a frame at or after the change frame, weighed (R35). -/
def weighRecord (s : State) (r : FrameRecord) : State :=
  let u := s.maps
  if u.next.state ≠ .none ∧ atOrAfter r.count u.next.changeFrame then
    if r.changeCount = u.next.count then confirm s
    else if u.current.state ≠ .none ∧ r.changeCount = u.current.count ∧ r.pending ∧ r.nextChangeCount = u.next.count then
      backOut s (.keepAt r.changeFrame)
    else backOut s .drop
  else s

/-- A peer's STATUS, weighed (R36). -/
def weighStatus (s : State) (p : Peer) : State :=
  let u := s.maps
  if u.next.state ≠ .none ∧ p.sync = .locked ∧ p.curState ≠ .none ∧ atOrAfter p.count u.next.changeFrame then
    if p.curCount = u.next.count then confirm s
    else if u.current.state ≠ .none ∧ p.curCount = u.current.count ∧
        (p.nextState = .none ∨ p.changeFrame ≠ u.next.changeFrame) then
      if p.nextState ≠ .none ∧ p.nextCount = u.next.count then backOut s (.keepAt p.changeFrame) else backOut s .drop
    else s
  else s

/-! ### Own FRAME records (R26, R27) -/

/-- The current fields of a record (R26, second step), and whether the pending fields are to be taken. -/
def takeCurrentFields (s : State) (r : FrameRecord) : State × Bool :=
  let m := s.maps.current
  if m.state = .none then (settleMaps (setCurrent s (openedMap r.changeCount r.entryCount 0 m.deferred)), true)
  else if r.changeCount = m.count then
    if r.entryCount = m.entryCount then (s, true)
    else if m.state = .complete then (countControlError s, true)
    else (settleMaps (setCurrent s (openedMap r.changeCount r.entryCount 0 none)), true)
  else if s.maps.next.state ≠ .none ∧ r.changeCount = s.maps.next.count then (countControlError s, false)
  else (settleMaps (setCurrent s (openedMap r.changeCount r.entryCount 0 none)), true)

/-- Replace the next map, after a back-out where the checkpoint marker is held (R27). -/
def renewNext (s : State) (m : MuxMap) : State :=
  settleMaps (setNext (if s.maps.marker.isSome then backOut s .drop else s) m)

/-- The pending fields of a record (R27). -/
def takePendingFields (s : State) (r : FrameRecord) : State :=
  let m := s.maps.next
  if r.pending then
    let opened := openedMap r.nextChangeCount r.nextEntryCount r.changeFrame none
    if m.state = .none then settleMaps (setNext s opened)
    else if m.count = r.nextChangeCount then
      if m.changeFrame = r.changeFrame then
        if m.entryCount = r.nextEntryCount then s
        else if m.state = .complete then countControlError s
        else settleMaps (setNext s opened)
      else if s.maps.marker.isSome then backOut s (.keepAt r.changeFrame)
      else settleMaps (setNext s { m with changeFrame := r.changeFrame })
    else renewNext s opened
  else if m.state = .none then s
  else backOut s .drop

/-- The map unit takes a frame's FRAME record in its three steps (R26). -/
def mapFrameRecord (s : State) (r : FrameRecord) : State :=
  let t := takeCurrentFields (weighRecord s r) r
  if t.2 then takePendingFields t.1 r else t.1

/-! ### Own STREAM records (R28, R29, R44) -/

/-- A map-changed notice is due: content, state or source differ (R31, R44). -/
def noticeDue (m : MuxMap) (r : RecordResult) : Bool :=
  r.contentChanged || r.map.state != m.state || r.map.source != m.source

/-- Settle after a record where a notice is due. -/
def settleIf (due : Bool) (s : State) : State := if due then settleMaps s else s

/-- A valid STREAM record with a change-count tag (R28): it goes to the map whose change count is its tag. A change of
content to an ADOPTED next map while the checkpoint marker is held calls for a back-out (R44); one to an ASSEMBLING next map
calls for none: DESIGN CHOICE, log 69. -/
def mapStreamRecord (s : State) (tag : ChangeCount) (raw : RawEntry) : State :=
  let e := entryOfRaw raw true
  let u := s.maps
  if u.current.state ≠ .none ∧ u.current.count = tag then
    let r := applyRecord u.current e
    let s1 := if r.error then countControlError s else s
    settleIf (noticeDue u.current r) (setCurrent s1 r.map)
  else if u.next.state ≠ .none ∧ u.next.count = tag then
    let r := applyRecord u.next e
    let s1 := if r.error then countControlError s else s
    if r.contentChanged ∧ u.next.state = .adopted ∧ u.marker.isSome then backOut s1 (.replace r.map)
    else settleIf (noticeDue u.next r) (setNext s1 r.map)
  else s

/-! ### MAP notices (R40, R42, R43) -/

/-- The notice-wanted marks a peer's STATUS raises (R40), and the test of R41 where one is set. -/
def raiseMarks (s : State) (p : Peer) : State :=
  let u := s.maps
  let lacksCurrent := u.current.ownComplete &&
    (p.curState == .none || p.curState == .assembling || olderCount p.curCount u.current.count)
  let lacksNext := u.next.ownComplete && p.curCount != u.next.count &&
    (p.nextState == .none || p.nextState == .assembling || olderCount p.nextCount u.next.count)
  if lacksCurrent || lacksNext then
    testNotice (setMaps s { u with wantCurrent := u.wantCurrent || lacksCurrent, wantNext := u.wantNext || lacksNext })
  else s

/-- A carried map adopted as next map, with a change frame (R43). -/
def adoptNext (s : State) (n : MapNotice) (c : FrameCount) : State :=
  let m := s.maps.next
  if adoptable m n.count then
    let a := adoptedMap m n c
    if s.maps.marker.isSome ∧ !sameContent m a then backOut s (.replace a) else settleMaps (setNext s a)
  else s

/-- A carried map adopted as current map (R43); a held next map older than it becomes NONE. The adopted map is in place
before a back-out that this calls for, whose re-creation goes by the classes and claims from before the adoption; the
review comes after it: DESIGN CHOICE, log 43. -/
def adoptCurrent (s : State) (n : MapNotice) : State :=
  if adoptable s.maps.current n.count then
    let s1 := setCurrent s (adoptedMap s.maps.current n s.maps.current.changeFrame)
    if s.maps.next.state ≠ .none ∧ olderCount s.maps.next.count n.count then backOut s1 .drop else settleMaps s1
  else s

/-- A MAP notice heard from a peer (R42, R43). -/
def hearNotice (s : State) (n : MapNotice) : State :=
  let u := s.maps
  if !noticeSound n then countControlError s
  else if s.mod.mode = .draining then s
  else if n.isNext then
    if u.current.state ≠ .none ∧ n.count = u.current.count then s
    else
      match n.changeFrame with
      | some c => adoptNext s n c
      | none => s
  else if u.next.state ≠ .none ∧ n.count = u.next.count then adoptNext s n u.next.changeFrame
  else adoptCurrent s n

/-- The outgoing map at the frame start of `g`: released at C + 15 or later (R39). -/
def releaseOutgoing (s : State) (g : FrameCount) : State :=
  match s.maps.outgoing with
  | some o => if atOrAfter g (o.changeFrame + 15) then setMaps s { s.maps with outgoing := none } else s
  | none => s

end Sys2Proof.Machine
end

