-- ==== Sys2Proof/Machine/Tracker.lean ====
section
/-!
DEFINITION. Frame time (chapters 1 and 3): frame starts, payload ends, filing, slip, holdover, LOST, the control path
and what a decoded control block does. Also the STATUS cadence (R167).
-/

namespace Sys2Proof.Machine

/-- Payload cell words in a frame (R8). -/
abbrev payloadWordCount : Nat := 7200

/-- Control cell words in a frame (R8). -/
abbrev controlWordCount : Nat := 384

/-- Control cell words in a control block (R8). -/
abbrev blockWordCount : Nat := 48

/-- The flywheel count does not go past 42 (R14). -/
abbrev flywheelLimit : Nat := 42

def setTracker (s : State) (t : Tracker) : State := { s with ftr := t }

def setFrame (s : State) (f : Frame) : State := setTracker s { s.ftr with frame := some f }

def setControl (s : State) (c : ControlPath) : State := setTracker s { s.ftr with control := c }

def setIlm (s : State) (m : Ilm) : State := { s with ilm := m }

/-! ### Cadence points (R167, R178, R181) -/

/-- Offer this station's STATUS, DRAINED or QUIESCED: class 2 or 0, rank 0, no stream-frame. -/
def offerNotice (s : State) (k : MsgKind) : State :=
  offerAnyway s (newEntry s k none none 0 (if k = .status then .status else .empty))

/-- A cadence point: STATUS in RUNNING, DRAINING and QUIESCING; a dropped DRAINED or QUIESCED is offered again. -/
def cadencePoint (s : State) : State :=
  let s1 := if s.mod.mode = .running ∨ s.mod.mode = .draining ∨ s.mod.mode = .quiescing then offerNotice s .status else s
  if s1.mod.mode = .draining ∧ !queued s1 .drained none none then offerNotice s1 .drained
  else if s1.mod.mode = .quiescing ∧ allIdle s1 ∧ !queued s1 .quiesced none none then offerNotice s1 .quiesced
  else s1

def setStatusTimer (s : State) (t : Option Instant) : State := { s with mod := { s.mod with statusTimer := t } }

/-! ### Frame start (R18) -/

/-- A frame start is issued for the local frame count (R18, R39). -/
def noteStart (s : State) : State := setTracker s { s.ftr with lastStart := some s.ftr.count }

/-- The frame start of the frame whose count is the local frame count: claims (R149), cadence point (R167), resync
(R164), repeat of lapsed deadlines (R163), age-out (R109), release of the outgoing map (R39). The order is the model's
reading (DEDUCED, log 23). -/
def frameStart (s : State) : State :=
  let g := s.ftr.count
  releaseOutgoing (ageOut (repeatLapsed (resync (cadencePoint (openClaims (noteStart s))) g)) g) g

/-! ### Filing and payload end (R18, R19, R46 to R49) -/

/-- The 7,200 words of a fill area: those gathered, in order, and -8 in every cell that none reached (R46). -/
def gathered (fill : Option (List CellWord)) : List CellWord :=
  let ws := (fill.getD []).reverse
  (ws ++ List.replicate payloadWordCount erasedWord).take payloadWordCount

/-- File frame `f` in its slot (R47, R48, R49). -/
def fileSlot (m : Ilm) (f : FrameCount) (received : Bool) : Ilm :=
  let run := min 8 (m.fillRun + 1)
  let slot : Slot := { tag := some f, received := received, whole := run == 8,
                       cells := if received then gathered m.fill else [] }
  { slots := m.slots.set (slotIndex f) slot, fill := none, fillRun := run }

/-- The payload end A(F) of the frame with the local frame count: filed, its release instant R(F-7) fixed, handed to
the job scheduler (R18, R19). -/
def issuePayloadEnd (s : State) (received : Bool) : State :=
  let f := s.ftr.count
  let s1 := setIlm s (fileSlot s.ilm f received)
  let s2 := setTracker s1 { s1.ftr with releases := s1.ftr.releases ++ [(f - 7, s1.now + framePeriod)] }
  jobsAtPayloadEnd s2 f (slotOf s2 f).whole

/-- A trial frame fails: it will be filed ERASED and the flywheel count gains one (R15). The count gains it here, as the
frame's fate is settled, and not at its filing: DESIGN CHOICE, log 45. -/
def failTrial (s : State) (f : Frame) : State :=
  setTracker s { s.ftr with frame := some { f with failed := true }, flywheel := min flywheelLimit (s.ftr.flywheel + 1) }

/-- A trial frame whose fate is open. -/
def openTrial (s : State) (f : Frame) : Bool := s.ftr.sync == .holdover && f.kind == .trial && !f.failed

/-- An open trial frame fails where no FRAME record of it has come (R15). -/
def failIfUnnamed (s : State) : State :=
  match s.ftr.frame with
  | some f => if openTrial s f then failTrial s f else s
  | none => s

/-- The fill area becomes idle: the cells received are discarded (R46). -/
def clearFill (s : State) : State := setIlm s { s.ilm with fill := none }

/-- A frame whose payload is over is filed RECEIVED: received from a marker, and not a trial frame that failed (R11,
R12, R14, R15). -/
def filedReceived (f : Frame) : Bool := f.kind == .reception || (f.kind == .trial && !f.failed)

/-- The payload of frame `f`, in progress, is over. An unnamed frame is not filed and its cells are discarded (R10). -/
def finishPayload (s : State) (f : Frame) : State :=
  let s1 := setFrame s { f with payloadEnded := true, fileAt := none }
  if f.named then issuePayloadEnd s1 (filedReceived f) else clearFill s1

/-- The payload end of the frame in progress, if it has not already come (R8, R10, R15). -/
def endPayload (s : State) : State :=
  match s.ftr.frame with
  | none => s
  | some f0 =>
    if f0.payloadEnded then s
    else
      let s1 := failIfUnnamed s
      match s1.ftr.frame with
      | none => s1
      | some f => finishPayload s1 f

/-- The control end of the frame in progress (R8): an open trial frame fails. -/
def endControl (s : State) : State :=
  match s.ftr.frame with
  | none => s
  | some f => if f.controlEnded then s else failIfUnnamed (setFrame s { f with controlEnded := true })

/-- What the beginning of the next frame does to the frame in progress: control end, then payload end (R8). -/
def endFrame (s : State) : State := endPayload (endControl s)

/-! ### LOST, SEARCH, slip (R16, R17, R54, R55) -/

/-- Every slot EMPTY, the fill area idle, the fill run 0 (R55). -/
def emptySlots (s : State) : State := setIlm s .reset

/-- Every slot keeps its tag, of kind ERASED and not whole; the fill run is 0; the fill area is left (R54). -/
def eraseSlots (s : State) : State :=
  setIlm s { s.ilm with slots := s.ilm.slots.update (fun x => { x with received := false, whole := false, cells := [] }),
                        fillRun := 0 }

/-- The control path as the frame in progress is dropped: words paired with the next frame to begin at a marker go on
waiting for it (R8), and the others belong to no frame from here on. -/
def idleControl (c : ControlPath) : ControlPath :=
  if c.pairing = .next then c else { c with pairing := .none, block := [], held := [] }

/-- No frame is in progress and there is no marker timing. -/
def leaveFrames (s : State) (sync : SyncState) : State :=
  setTracker s { s.ftr with sync := sync, frame := none, marker := none, control := idleControl s.ftr.control,
                            nextEnded := false }

/-- Every pending release instant is cancelled (R17, R19). -/
def cancelReleases (s : State) : State := setTracker s { s.ftr with releases := [] }

/-- The outgoing map is released (R39). -/
def dropOutgoing (s : State) : State := setMaps s { s.maps with outgoing := none }

/-- The release list is emptied (R154). -/
def emptyReleaseList (s : State) : State := { s with dlv := { s.dlv with releaseList := [] } }

/-- The status timer starts at 72 ms (R167). -/
def startStatusTimer (s : State) : State := setStatusTimer s (some (s.now + framePeriod))

/-- Entry to LOST (R17, R39, R55, R57, R147, R165, R167). -/
def enterLost (s : State) : State :=
  settleClaims (startStatusTimer (emptyReleaseList (emptyArrivals (dropOutgoing (cancelReleases
    (emptySlots (leaveFrames s .lost)))))))

/-- PROVISIONAL returns to SEARCH: the unnamed frame in progress is dropped (R10, R46). -/
def returnToSearch (s : State) : State := clearFill (leaveFrames s .search)

/-- The work that a slip abandons: slots, jobs, contexts, arrival record, parcel records (R16, R54, R57, R80, R113). -/
def abandonWork (s : State) : State := countSlip (emptyStore (emptyArrivals (stopEngines (eraseSlots s))))

/-- The tracker at a slip to count `g`: LOCKED, flywheel count 0, release instants cancelled, the frame in progress
received as usual (R16). -/
def adoptCount (s : State) (g : FrameCount) : State :=
  setTracker s { s.ftr with sync := .locked, count := g, flywheel := 0, releases := [],
                            frame := s.ftr.frame.map (fun f => { f with kind := .reception }) }

/-- The checkpoint marker becomes none and the outgoing map is released (R25, R39). -/
def dropChangeover (s : State) : State := setMaps s { s.maps with marker := none, outgoing := none }

/-- A slip to count `g` (R16, R25, R39, R54, R80, R113, R165). The outgoing map is released before the presence of each
cursor's stream is tested: DESIGN CHOICE, log 73. Engines that the slip makes idle in QUIESCING are reported. -/
def slip (s : State) (g : FrameCount) : State :=
  let s1 := slipDelivery (dropChangeover (adoptCount (abandonWork s) g))
  if allIdle s then s1 else reportIdle s1

/-- The frame in progress is named with a record's count, and the tracker is LOCKED (R10). -/
def nameFrame (s : State) (r : FrameRecord) : State :=
  setTracker s { s.ftr with sync := .locked, count := r.count, expected := some r.ensemble, flywheel := 0,
                            frame := s.ftr.frame.map (fun f => { f with named := true }) }

/-- Naming in PROVISIONAL by a FRAME record: the status timer stops and the frame start is issued (R10, R167). -/
def lock (s : State) (r : FrameRecord) : State := frameStart (setStatusTimer (nameFrame s r) none)

/-- An event of R12 in LOCKED: reception of the frame in progress ends, HOLDOVER, flywheel count 1. Where its payload end
has come it has been filed, and the event acts on the next frame, which is ended as it begins (R12; when, DEDUCED,
log 12). The filing instant counts from the frame's marker, also where it was named in PROVISIONAL (DESIGN CHOICE, log 53),
and stands also where it has already passed, so that the frame is filed at the next FLYWHEEL_PAYLOAD_END (DESIGN CHOICE,
log 71). -/
def endReception (s : State) : State :=
  match s.ftr.frame with
  | none => setTracker s { s.ftr with sync := .holdover }
  | some f =>
    if f.payloadEnded then setTracker s { s.ftr with sync := .holdover, flywheel := 1, nextEnded := true }
    else
      clearFill (setTracker s { s.ftr with
        sync := .holdover, flywheel := 1,
        frame := some { f with kind := .ended, fileAt := some (f.begun + s.ftr.payloadOffset) } })

/-! ### FRAME records at the tracker (R10, R12, R13, R15) -/

/-- The tracker acts on a frame's FRAME record. -/
def trackRecord (s : State) (f : Frame) (r : FrameRecord) : State :=
  match s.ftr.sync with
  | .provisional => if s.ftr.expected = none ∨ s.ftr.expected = some r.ensemble then lock s r else s
  | .locked =>
    if s.ftr.expected ≠ some r.ensemble then endReception s
    else if r.count = s.ftr.count then s
    else slip s r.count
  | .holdover =>
    if !openTrial s f then s
    else if s.ftr.expected ≠ some r.ensemble then failTrial s f
    else if r.count = s.ftr.count then
      setTracker s { s.ftr with sync := .locked, flywheel := 0, frame := some { f with kind := .reception } }
    else slip s r.count
  | .search | .lost => s

/-- A FRAME record goes to the map unit where its id is the expected one (R20). -/
def passToMap (s : State) (r : FrameRecord) : State :=
  if s.ftr.expected = some r.ensemble then mapFrameRecord s r else s

/-- A frame's FRAME record goes to the tracker first, then to the map unit (R20). -/
def takeFrameRecord (s : State) (r : FrameRecord) : State :=
  match s.ftr.frame with
  | none => s
  | some f =>
    if f.recordSeen then s
    else
      let f1 := { f with recordSeen := true }
      passToMap (trackRecord (setFrame s f1) f1 r) r

/-- A STREAM record is taken in LOCKED, and in HOLDOVER while a trial frame is received (R28). A trial frame whose FRAME
record was foreign, or that has failed, is still being received to its end: DESIGN CHOICE, log 41. -/
def streamsTaken (s : State) : Bool :=
  s.ftr.sync == .locked ||
    (s.ftr.sync == .holdover && match s.ftr.frame with | some f => f.kind == .trial | none => false)

/-- What a complete control block does (R20, R21, R22). -/
def takeBlock (s : State) (b : ControlBlock) : State :=
  match b with
  | .badCheck | .unknownKind => countControlError s
  | .padding => s
  | .frame r => if frameRecordValid r then takeFrameRecord s r else countControlError s
  | .stream tag e =>
    if !entryInLimits e then countControlError s
    else if streamsTaken s then mapStreamRecord s tag e
    else s

/-! ### Control cell words (R8) -/

/-- A frame whose words are received: begun at a marker arrival and not ended by R12. -/
def isReceived (f : Frame) : Bool := f.kind == .reception || f.kind == .trial

/-- The frame in progress is received, and its control end has not come: a word after an early control end belongs to no
control area and is discarded, so that a frame whose control end has passed without a FRAME record has none (R8, R10, R12,
R13, R15; DEDUCED, log 68). -/
def controlOpen (s : State) : Bool :=
  match s.ftr.frame with
  | some f => isReceived f && !f.controlEnded
  | none => false

/-- The words of the block in progress after one more control cell word. -/
def blockAfter (c : ControlPath) (kept : Bool) (w : CellWord) : List CellWord := if kept then c.block ++ [w] else c.block

/-- The control path after one more control cell word of the current pairing. -/
def wordCounted (c : ControlPath) (kept : Bool) (w : CellWord) : ControlPath :=
  { c with words := c.words + 1, block := if (c.words + 1) % blockWordCount = 0 then [] else blockAfter c kept w }

/-- Decode the control block that a word completes: its 48th word has come and all 48 were kept. -/
def blockDone (s : State) (c : ControlPath) (kept : Bool) (w : CellWord) (b : ControlBlock) : State :=
  if kept ∧ (c.words + 1) % blockWordCount = 0 ∧ (blockAfter c kept w).length = blockWordCount then takeBlock s b else s

/-- Count one control cell word of the current pairing; `kept` where it is not discarded. The control end comes at the
384th word. -/
def countControlWord (s : State) (kept : Bool) (w : CellWord) (b : ControlBlock) : State :=
  let c := s.ftr.control
  if controlWordCount ≤ c.words then s
  else
    let s1 := blockDone (setControl s (wordCounted c kept w)) c kept w b
    if c.words + 1 = controlWordCount ∧ c.pairing = .current then endControl s1 else s1

/-- A control cell word that is paired with the next frame, as it waits for it: one received in SEARCH or LOST is
discarded, and its place among the words of its area is kept (R8). -/
def heldWord (s : State) (w : CellWord) (b : ControlBlock) : Option (CellWord × ControlBlock) :=
  if s.ftr.sync = .search ∨ s.ftr.sync = .lost then none else some (w, b)

/-- A control cell word on the control lane (R8). In two-lane mode it waits while it is paired with the next frame. -/
def takeControlWord (s : State) (w : CellWord) (b : ControlBlock) : State :=
  let c := s.ftr.control
  match c.pairing with
  | .none => s
  | .current => countControlWord s (controlOpen s) w b
  | .next =>
    if c.held.length < controlWordCount then setControl s { c with held := c.held ++ [heldWord s w b] } else s

/-- The control path as the next frame begins: in single-lane mode its words are the new frame's; in two-lane mode words
paired with the frame that ends are over, and words paired with the next one wait where it begins at a marker. -/
def nextControl (s : State) (atMarker : Bool) : ControlPath :=
  let c := s.ftr.control
  if s.mod.straps.singleLane then
    { c with pairing := if atMarker then .current else .none, words := 0, block := [], held := [] }
  else
    match c.pairing with
    | .next => if atMarker then { c with pairing := .current, held := [] } else c
    | _ => { c with pairing := .none, words := 0, block := [], held := [] }

/-- The fill area is opened, with no cell in it (R46). -/
def openFill (s : State) : State := setIlm s { s.ilm with fill := some [] }

/-- Begin a frame: it is the frame in progress, its control path is set, and, where it begins at a marker arrival, the
fill area of a frame that is received is opened (R46). -/
def installFrame (s : State) (f : Frame) (atMarker : Bool) : State :=
  let s1 := setTracker s { s.ftr with frame := some f, control := nextControl s atMarker, nextEnded := false }
  if atMarker && isReceived f then openFill s1 else s1

/-- Pass on a word that waited for this frame; a discarded one counts towards its area alone (R8). -/
def takeHeld (s : State) (h : Option (CellWord × ControlBlock)) : State :=
  match h with
  | some p => takeControlWord s p.1 p.2
  | none => countControlWord s false 0 .padding

/-- Pass on the words that waited for this frame (R8). -/
def passHeld (s : State) (held : List (Option (CellWord × ControlBlock))) : State := held.foldl takeHeld s

/-- A new frame begun now. -/
def newFrame (begun : Instant) (kind : FrameKind) (named : Bool) (fileAt : Option Instant) : Frame :=
  { begun := begun, named := named, kind := kind, failed := false, payloadWords := 0, payloadEnded := false,
    fileAt := fileAt, controlEnded := false, recordSeen := false }

/-- The control cell words that wait for a frame that begins at a marker. -/
def waiting (s : State) : List (Option (CellWord × ControlBlock)) :=
  if s.ftr.control.pairing = .next then s.ftr.control.held else []

/-! ### Marker arrivals (R9, R10, R11, R15) -/

/-- The instant lies in the marker window from T - 2 ms to T + 2 ms. -/
def inWindow (s : State) : Bool :=
  match s.ftr.marker with
  | some t => decide (t ≤ s.now + windowHalf ∧ s.now ≤ t + windowHalf)
  | none => false

def setMarker (s : State) (t : Instant) : State := setTracker s { s.ftr with marker := some t }

/-- The local frame count advances by one. -/
def advanceCount (s : State) : State := setTracker s { s.ftr with count := s.ftr.count + 1 }

/-- A marker begins an unnamed frame in PROVISIONAL (R9, R10). -/
def beginUnnamed (s : State) : State :=
  let held := waiting s
  let s1 := installFrame (setTracker s { s.ftr with sync := .provisional }) (newFrame s.now .reception false none) true
  passHeld (setMarker s1 (s.now + framePeriod)) held

/-- The filing instant of a frame of this kind that begins at a marker now: one whose reception R12 has ended is filed
at its frame start plus the payload offset (R12). -/
def filingAt (s : State) (kind : FrameKind) : Option Instant :=
  if kind = .ended then some (s.now + s.ftr.payloadOffset) else none

/-- A marker begins a named frame, in LOCKED, as a trial frame, or ended by R12 as it begins: count, frame start, marker
timing (R11, R12, R15). -/
def beginNamed (s : State) (kind : FrameKind) : State :=
  let held := waiting s
  let s1 := installFrame (advanceCount s) (newFrame s.now kind true (filingAt s kind)) true
  passHeld (setMarker (frameStart s1) (s.now + framePeriod)) held

/-- A marker arrival on lane 0. -/
def markerArrival (s : State) : State :=
  match s.ftr.sync with
  | .search | .lost => beginUnnamed s
  | .provisional => if inWindow s then beginUnnamed (endFrame s) else s
  | .locked => if inWindow s then beginNamed (endFrame s) .reception else s
  | .holdover =>
    if !inWindow s ∨ flywheelLimit ≤ s.ftr.flywheel then s
    else
      let s1 := endFrame s
      if flywheelLimit ≤ s1.ftr.flywheel then beginUnnamed (enterLost s1)
      else beginNamed s1 (if s1.ftr.nextEnded then .ended else .trial)

/-- A good marker on lane 1 in two-lane mode (R8): the words that follow belong to the frame in progress where it began
no more than 2 ms ago, otherwise to the next frame to begin at a marker on lane 0. -/
def controlMarker (s : State) : State :=
  let recent := match s.ftr.frame with
    | some f => decide (s.now ≤ f.begun + windowHalf)
    | none => false
  setControl s { pairing := if recent then .current else .next, marked := true, words := 0, block := [], held := [] }

/-! ### Window closings and the flywheel (R10, R11, R14) -/

/-- The flywheel count gains one, in HOLDOVER (R14). A frame that an event of R12 acts on is counted already (R12). -/
def countFlywheel (s : State) : State :=
  setTracker s { s.ftr with sync := .holdover,
                            flywheel := if s.ftr.nextEnded then s.ftr.flywheel else s.ftr.flywheel + 1 }

/-- The flywheel names the missed frame whose marker was expected at `t`: it begins at the closing of its window, and is
filed at `t` plus the payload offset (R14, R15). -/
def beginFlywheel (s : State) (t : Instant) : State :=
  let frame := newFrame (t + windowHalf) .flywheel true (some (t + s.ftr.payloadOffset))
  setMarker (frameStart (installFrame (advanceCount (countFlywheel s)) frame false)) (t + framePeriod)

/-- The marker window of `t` closes with no arrival. -/
def closeWindow (s : State) (t : Instant) : State :=
  match s.ftr.sync with
  | .search | .lost => s
  | .provisional => returnToSearch s
  | .locked =>
    let s1 := endFrame s
    beginFlywheel (setTracker s1 { s1.ftr with flywheel := 0, nextEnded := false }) t
  | .holdover =>
    if flywheelLimit ≤ s.ftr.flywheel then s
    else
      let s1 := endFrame s
      if flywheelLimit ≤ s1.ftr.flywheel then enterLost s1 else beginFlywheel s1 t

/-! ### Payload cell words (R8, R46) -/

/-- A payload cell word joins the fill area (R46). -/
def gather (s : State) (w : CellWord) : State := setIlm s { s.ilm with fill := s.ilm.fill.map (w :: ·) }

/-- The payload offset is measured: the interval since the beginning of frame `f` (R8). Of a frame named in PROVISIONAL
that is its marker's instant, not that of the record that issued its frame start: DESIGN CHOICE, log 53. -/
def measureOffset (s : State) (f : Frame) : State := setTracker s { s.ftr with payloadOffset := s.now - f.begun }

/-- A payload cell word of the frame in progress; the 7,200th brings the payload end (R8). -/
def takePayloadWord (s : State) (w : CellWord) : State :=
  match s.ftr.frame with
  | none => s
  | some f =>
    if !isReceived f ∨ f.payloadEnded then s
    else
      let s1 := gather (setFrame s { f with payloadWords := f.payloadWords + 1 }) w
      if f.payloadWords + 1 < payloadWordCount then s1 else endPayload (measureOffset s1 f)

/-! ### Departures of lanes (R5, R8, R9, R10, R12, R14) -/

/-- The payload lane leaves ALIGNED. In PROVISIONAL this is the entry to ACQUIRE of R10 too: one of the control lane alone
does not return the tracker to SEARCH: DESIGN CHOICE, log 67. -/
def payloadLaneGone (s : State) : State :=
  match s.ftr.sync with
  | .provisional => returnToSearch s
  | .locked => endReception s
  | .search | .holdover | .lost => s

/-- A lane leaves ALIGNED: the control end where it is the control lane (R8), then what the payload lane's departure does.
R14 gives departures no further effect in HOLDOVER; the control end comes there too, and an open trial frame fails at it
as R15 says: DESIGN CHOICE, log 40. -/
def laneGone (s : State) (i : LaneId) : State :=
  if s.mod.straps.singleLane then payloadLaneGone (endControl s)
  else if i = 0 then payloadLaneGone s
  else
    let s1 := endControl s
    setControl s1 { s1.ftr.control with marked := false }

end Sys2Proof.Machine
end

