-- ==== Sys2Proof/Machine/Line.lean ====
section
/-!
DEFINITION. The link controller at the line (chapter 7): taking a message, the ends of attempts, faults, receiving; and
the modes and acknowledgements that follow from them (chapter 11).
-/

namespace Sys2Proof.Machine

def setLink (s : State) (l : Link) : State := { s with lnk := l }

def setMode (s : State) (m : Mode) : State := { s with mod := { s.mod with mode := m } }

/-! ### Taking a message (R117, R134, R168) -/

/-- The body of an entry as its owner now gives it, and the flag OFFSETS (R98, R134, R168). The flag is set for a UNIT
stream with the units option also where the unit list is empty: DESIGN CHOICE, log 58. -/
def bodyOf (s : State) (e : Entry) : List Byte × Bool :=
  match e.body with
  | .parcel carryIn w =>
    match e.stream.bind (fun x => e.frame.bind (recordOf s x)) with
    | some r =>
      let offsets := r.kind == .unit && hasUnits s r.stream
      (parcelBody r carryIn w offsets (payloadOf s r), offsets)
    | none => ([], false)
  | .gap reason => ([reasonCode reason], false)
  | .status => (statusBody s, false)
  | .map n => (mapBody n, false)
  | .trace b => (traceBody b, false)
  | .empty => ([], false)

/-- The carry-out field of an entry's body. -/
def carryOutOf (e : Entry) : Option Nat :=
  match e.body with
  | .parcel _ w => w.carryOut
  | _ => none

/-- The message that the link controller takes whole from an entry: the attempt number is one more than the count of
failed attempts (R117, R119, R134). -/
def takeMessage (s : State) (e : Entry) : Attempt :=
  let b := bodyOf s e
  let h : Header :=
    { source := BitVec.ofNat 8 s.mod.straps.station.val,
      stream := match e.stream with | some x => streamByte x | none => 0xFF,
      frame := match e.frame with | some f => frameField f | none => noWord,
      bodyLength := BitVec.ofNat 16 b.1.length, flags := if b.2 then 1 else 0,
      attempt := BitVec.ofNat 8 (e.attempts + 1), mode := modeCode s.mod.mode, sync := syncCode s.ftr.sync,
      fault := faultCode s.lnk.faultRecord }
  { uid := e.uid, start := s.now, kind := e.kind, stream := e.stream, frame := e.frame, arb := e.arb, header := h, body := b.1,
    carryOut := carryOutOf e }

/-- The bits of an attempt from its start bit to the end of its end flag (R115). -/
def attemptBits (a : Attempt) : List Bool := wireBits a.arb (headerBytes (kindCode a.kind) a.header) a.body

/-- Contention at an instant at which the line becomes free, against the other contenders' fields (R117). -/
def contend (s : State) (rivals : List ArbField) : State :=
  if s.lnk.state ≠ .joined ∨ s.lnk.attempt.isSome then s
  else
    match s.lnk.queue with
    | [] => s
    | e :: q =>
      if winsArbitration e.arb rivals then
        setLink s { s.lnk with attempt := some (takeMessage s e), queue := { e with rewritten := false } :: q }
      else s

/-! ### Modes (R176 to R182) -/

/-- Every entry but those kept leaves the queue with cause CLEARED, and the parcel store frees the records of PARCEL
entries, in the order of the queue (DESIGN CHOICE, log 57). -/
def clearQueue (s : State) (keep : Entry → Bool) : State :=
  (s.lnk.queue.filter (fun e => !keep e)).foldl tellStore (withdraw s (fun e => !keep e))

/-- Entry to QUIESCED: nothing stays in the queue (R181). -/
def enterQuiesced (s : State) : State := settleClaims (clearQueue (setMode s .quiesced) (fun _ => false))

/-- DRAINING is left for mode `m` (R178). -/
def leaveDraining (s : State) (m : Mode) : State := { s with mod := { s.mod with mode := m, returnMode := none } }

/-- The DRAINED that the queue holds completes: the mode becomes the return mode (R178). -/
def endDraining (s : State) : State :=
  let back := s.mod.returnMode.getD .running
  let s1 := leaveDraining s back
  match back with
  | .quiesced => enterQuiesced s1
  | .quiescing => offerNotice s1 .quiesced
  | _ => s1

/-! ### The ends of an attempt (R119, R129, R130, R131) -/

/-- The entry an attempt was taken from, while it is in the queue. -/
def entryOfAttempt (s : State) (a : Attempt) : Option Entry := s.lnk.queue.find? (fun e => e.uid == a.uid)

def offLine (s : State) : State := setLink s { s.lnk with attempt := none }

/-- Replace the entry with number `uid` by `g` of it. -/
def updateEntry (s : State) (uid : Nat) (g : Entry → Entry) : State :=
  setQueue s (s.lnk.queue.map (fun e => if e.uid == uid then g e else e))

/-- Take the entry with number `uid` out of the queue. -/
def removeEntry (s : State) (uid : Nat) : State := withdraw s (fun e => e.uid == uid)

/-- The owner of an entry that was dropped or has completed is told: the parcel store frees the record of a PARCEL
(R104), the map unit tests its conditions after a MAP (R41). -/
def tellOwner (s : State) (e : Entry) : State :=
  match e.kind with
  | .parcel => tellStore s e
  | .map => testNotice s
  | _ => s

/-- A PARCEL or GAP for a stream-frame completes on the line: entries withdrawn, record freed, cursor moved (R131). -/
def resolve (s : State) (x : StreamId) (f : FrameCount) (carryOut : Option Nat) : State :=
  let s1 := withdraw s (fun e => entryMatches .parcel (some x) (some f) e || entryMatches .gap (some x) (some f) e)
  moveCursor (freeRecord s1 x f) x f carryOut

/-- The station's attempt fails: the count of its entry gains one, and the fourth failure drops it (R119, R129). -/
def failAttempt (s : State) (a : Attempt) : State :=
  let s1 := offLine s
  match entryOfAttempt s1 a with
  | none => s1
  | some e =>
    if e.rewritten ∧ (e.kind = .status ∨ e.kind = .trace) then
      updateEntry s1 e.uid (fun e => { e with attempts := 0, rewritten := false })
    else if 4 ≤ e.attempts + 1 then tellOwner (countLinkDrop (removeEntry s1 e.uid)) e
    else updateEntry s1 e.uid (fun e => { e with attempts := e.attempts + 1, rewritten := false })

/-- An entry of this station's that is not a PARCEL or GAP has been sent: it leaves the queue, its owner is told, and a
DRAINED or QUIESCED takes its effect (R130, R178, R181). -/
def entrySent (s : State) (e : Entry) : State :=
  let s1 := tellOwner (removeEntry s e.uid) e
  if e.kind = .drained ∧ s1.mod.mode = .draining then endDraining s1
  else if e.kind = .quiesced ∧ s1.mod.mode = .quiescing then enterQuiesced s1
  else s1

/-- The station's attempt completes: its entry leaves the queue, or stays where it was rewritten on the line, and its
own message goes through its own receive filter (R119, R129, R130). -/
def completeAttempt (s : State) (a : Attempt) : State :=
  let s1 := offLine s
  match a.kind, a.stream, a.frame with
  | .parcel, some x, some f => resolve s1 x f a.carryOut
  | .gap, some x, some f => resolve s1 x f none
  | _, _, _ =>
    match entryOfAttempt s1 a with
    | none => s1
    | some e =>
      if e.rewritten then updateEntry s1 e.uid (fun e => { e with attempts := 0, rewritten := false })
      else entrySent s1 e

/-- This station's attempt reads its end slot (R119). -/
def endAttempt (s : State) (rejected : Bool) : State :=
  match s.lnk.attempt with
  | none => s
  | some a => if rejected then failAttempt s a else completeAttempt s a

/-- An attempt on the line is aborted and fails (R119, R122, R123). -/
def abortAttempt (s : State) : State :=
  match s.lnk.attempt with
  | none => s
  | some a => failAttempt s a

/-! ### Link states and faults (R120 to R123) -/

/-- The adoption mark becomes ARMED (R151). -/
def armAdoption (s : State) : State := { s with sub := { s.sub with armed := true } }

/-- Entry into LISTENING: join timer 216 ms, adoption mark ARMED, and no message already on the line is received
(R118, R120, R151). -/
def enterListening (s : State) : State :=
  settleClaims (armAdoption (setLink s { s.lnk with state := .listening, joinTimer := some (s.now + joinTime),
                                                    recoveryTimer := none, receivingFrom := s.now }))

/-- Entry into FAULT with a fault record and a recovery timer (R120, R122, R123). -/
def enterFault (s : State) (r : FaultRecord) (recovery : Option Instant) : State :=
  settleClaims (setLink s { s.lnk with state := .fault, faultRecord := r, joinTimer := none, recoveryTimer := recovery })

/-- A DUPLICATE event lies within 10 s after the duplicate instant (R123). -/
def secondDuplicate (s : State) : Bool :=
  match s.lnk.duplicateAt with
  | some t => decide (s.now ≤ t + duplicateSpan)
  | none => false

/-- A second DUPLICATE event within 10 s: the FAULT is permanent (R123). -/
def permanentFault (s : State) : State :=
  let s1 := enterFault s .duplicate none
  setLink s1 { s1.lnk with permanent := true }

/-- A first DUPLICATE event: FAULT with a recovery timer at 10 ms, and the duplicate instant is noted (R123). -/
def firstDuplicate (s : State) : State :=
  let s1 := enterFault s .duplicate (some (s.now + recoveryTime))
  setLink s1 { s1.lnk with duplicateAt := some s.now }

/-- A DUPLICATE event (R123). A permanent FAULT is not changed (log 26). -/
def duplicateFault (s : State) : State :=
  if s.lnk.state = .offline ∨ s.lnk.permanent then s
  else if secondDuplicate s then permanentFault s
  else firstDuplicate s

/-! ### Receiving (R118, R132, R133) -/

def setEndSlot (s : State) (x : EndSlot) : State := setLink s { s.lnk with endSlot := x }

/-- A start bit at this instant was read from a line free of this station's own attempt: none is on the line, or the
message came before it (R117, R118; DEDUCED, log 62). -/
def startedFree (s : State) (start : Instant) : Bool :=
  match s.lnk.attempt with
  | none => true
  | some a => decide (start < a.start)

/-- This station is a receiver of a message with this start bit: not OFFLINE, not one that entered LISTENING while the
message was on the line, and not itself sending that message (R118). One whose attempt R123 has aborted is a receiver of
the message that goes on from the same start bit: DESIGN CHOICE, log 47. -/
def isReceiver (s : State) (start : Instant) : Bool :=
  s.lnk.state != .offline && decide (s.lnk.receivingFrom ≤ start) && startedFree s start

/-- A message heard, complete on the line: judged, filtered, and handed to its owner (R118, R123, R132, R133). One under
this station's own number that fails a test of R132 is no DUPLICATE event: DESIGN CHOICE, log 59. One that passes them is a
DUPLICATE event and no control error: DESIGN CHOICE, log 70. -/
def hear (s : State) (k : MsgKind) (m : LinkMessage) (owner : State → State) : State :=
  if !isReceiver s m.start then s
  else if !bodyWhole m then setEndSlot s .reject
  else
    let s1 := setEndSlot s .recessive
    if !filterPasses k m then countControlError s1
    else if m.header.source.toNat = s.mod.straps.station.val then duplicateFault s1
    else owner s1

/-- The completion of this station's own attempt, where the message on the line is of this kind (log 9). -/
def completeOwn (s : State) (k : MsgKind) : State :=
  match s.lnk.attempt with
  | some a => if a.kind = k then completeAttempt s a else s
  | none => s

/-- A completed message of a Tarcen kind. -/
def receive (s : State) (k : MsgKind) (m : Incoming) (owner : State → LinkMessage → State) : State :=
  match m with
  | .own => completeOwn s k
  | .heard m => hear s k m (fun s => owner s m)

/-- A request's target is this station or all stations (R133). -/
def addressed (s : State) (m : LinkMessage) : Bool :=
  field8 m 0 == s.mod.straps.station.val || field8 m 0 == 7

/-! ### The common course of a command -/

/-- Local time moves to the command's instant; while RESET_N is low the part is held and nothing else happens (R174).
The claims are settled last: they cannot outlive a condition of R147. -/
def live (t : Instant) (s : State) (f : State → State) : State :=
  let s1 := { s with now := max s.now t }
  if s.held then s1 else settleClaims (f s1)

/-- A timer that has come to its instant. -/
def due (s : State) (timer : Option Instant) : Bool :=
  match timer with
  | some t => decide (t ≤ s.now)
  | none => false

end Sys2Proof.Machine
end

