-- ==== Sys2Proof/Machine/FrameCommands.lean ====
section
/-!
DEFINITION. The commands of frame time and of the decode engines: MARKER_WINDOW_CLOSE to DECODE_END (R14, R17, R19,
R68, R70). A command that ends a timer acts where the timer has come to its instant (log 2).
-/

namespace Sys2Proof.Machine

/-- MARKER_WINDOW_CLOSE (R10, R11, R14): the window of T closes at T + 2 ms with no arrival. -/
def execMarkerWindowClose (t : Instant) (s : State) : Host.Outcome State Fault Refusal :=
  .next (live t s (fun s =>
    match s.ftr.marker with
    | some m => if m + windowHalf ≤ s.now then closeWindow s m else s
    | none => s))

/-- FLYWHEEL_PAYLOAD_END (R12, R14): the filing instant of a flywheel frame, or of a frame ended by R12. -/
def execFlywheelPayloadEnd (t : Instant) (s : State) : Host.Outcome State Fault Refusal :=
  .next (live t s (fun s =>
    match s.ftr.frame with
    | some f => if due s f.fileAt then endPayload s else s
    | none => s))

/-- ENTRY_TO_LOST (R14, R17): with the flywheel count at 42, the next window opens at T - 2 ms. Where a trial frame brings
the count to 42 inside that window, the entry comes at once, and the window's marker begins no frame: DEDUCED, log 14. -/
def execEntryToLost (t : Instant) (s : State) : Host.Outcome State Fault Refusal :=
  .next (live t s (fun s =>
    match s.ftr.marker with
    | some m => if s.ftr.sync = .holdover ∧ s.ftr.flywheel = flywheelLimit ∧ m ≤ s.now + windowHalf then enterLost s else s
    | none => s))

/-- RELEASE_INSTANT (R19, R154, R161): a pending R(F) comes and is issued to the delivery unit. -/
def execReleaseInstant (t : Instant) (f : FrameCount) (s : State) : Host.Outcome State Fault Refusal :=
  .next (live t s (fun s =>
    match s.ftr.releases.find? (fun p => p.1 == f && decide (p.2 ≤ s.now)) with
    | some p => releaseEvent (setTracker s { s.ftr with releases := s.ftr.releases.erase p }) p.1 p.2
    | none => s))

/-- CONTEXT_MOVE_COMPLETE (R68, R70): the save, load or transfer into the engine is complete. -/
def execContextMoveComplete (t : Instant) (e : EngineId) (s : State) : Host.Outcome State Fault Refusal :=
  .next (live t s (fun s => completeMove s e))

/-- DECODE_END (R70 to R73): the engine ends decoding, and its job is retired. -/
def execDecodeEnd (t : Instant) (e : EngineId) (found : Decoded) (s : State) : Host.Outcome State Fault Refusal :=
  .next (live t s (fun s => endDecoding s e found))

end Sys2Proof.Machine
end

