-- ==== Sys2Proof/Machine/LaneCommands.lean ====
section
/-!
DEFINITION. The commands of the pins and of the lanes: PIN_RESET_ASSERT to FOURTH_CORRUPT_CONTROL_WORD (R1 to R7,
R173 to R175).
-/

namespace Sys2Proof.Machine

/-! ### Pin reset -/

/-- The part while RESET_N is held low (R174, R175): lanes OFF, link OFFLINE, no timer runs, nothing in flight. What its
tables read as while it is held is a DESIGN CHOICE, log 50. -/
def heldState (s : State) (now : Instant) : State :=
  let r := State.afterPinReset now s.mod.straps s.pending
  { r with held := true, lanes := #v[Lane.held, Lane.held],
           lnk := { r.lnk with state := .offline, joinTimer := none },
           mod := { r.mod with statusTimer := none } }

/-- PIN_RESET_ASSERT (R175): every block stops at once, an attempt on the line is cut off. -/
def execPinResetAssert (t : Instant) (s : State) : Host.Outcome State Fault Refusal := .next (heldState s (max s.now t))

/-- PIN_RESET_RELEASE (R173, R174): the straps are sampled and every block takes its end-of-pin-reset values. -/
def execPinResetRelease (t : Instant) (straps : Straps) (s : State) : Host.Outcome State Fault Refusal :=
  .next (State.afterPinReset (max s.now t) straps s.pending)

/-! ### Lane states (R3 to R5) -/

/-- A lane enters ACQUIRE: a fresh auto-zero and a fresh time-out, tune NONE, corrupt run 0 (R3). The polarity stands
until the auto-zero rewrites it. -/
def enterAcquire (now : Instant) (l : Lane) : Lane :=
  { l with state := .acquire, stage := .autoZero, autoZeroEnd := some (now + autoZeroTime),
           timeout := some (now + acquireTime), tune := .none, tuneWords := 0, corruptRun := 0 }

/-- A lane enters TRACK (R3, R5). -/
def enterTrack (l : Lane) : Lane :=
  { l with state := .track, stage := .autoZero, autoZeroEnd := none, timeout := none, tune := .none, tuneWords := 0,
           corruptRun := 0 }

/-- A lane enters ALIGNED, and its one-shot tune begins (R4, R5). -/
def enterAligned (l : Lane) : Lane := { l with state := .aligned, tune := .oneShot, tuneWords := 0, corruptRun := 0 }

/-- A word has been received on an ALIGNED lane (R5). -/
def countWord (l : Lane) : Lane := { l with tuneWords := min 256 (l.tuneWords + 1) }

/-- A good control word has been received: the corrupt run is 0 (R1). -/
def goodWord (l : Lane) : Lane := { countWord l with corruptRun := 0 }

/-- A corrupt control word (R1, R5): the corrupt run gains one, and the fourth sends the lane to TRACK, of which the
tracker learns at once. -/
def corruptWord (s : State) (i : LaneId) : State :=
  let l := laneOf s i
  if l.state ≠ .aligned then s
  else if 4 ≤ l.corruptRun + 1 then laneGone (setLane s i (enterTrack l)) i
  else setLane s i { countWord l with corruptRun := l.corruptRun + 1 }

/-- EQUALISER_AUTO_ZERO (R3): the polarity is written and frequency acquisition begins. -/
def execEqualiserAutoZero (t : Instant) (i : LaneId) (pol : Polarity) (s : State) : Host.Outcome State Fault Refusal :=
  .next (live t s (fun s =>
    let l := laneOf s i
    if l.state = .acquire ∧ l.stage = .autoZero ∧ due s l.autoZeroEnd then
      setLane s i { l with polarity := some pol, stage := .frequency, autoZeroEnd := none }
    else s))

/-- LOCK_REPORT (R3): a lane in frequency acquisition enters TRACK, and its time-out is cancelled. -/
def execLockReport (t : Instant) (i : LaneId) (s : State) : Host.Outcome State Fault Refusal :=
  .next (live t s (fun s =>
    let l := laneOf s i
    if l.state = .acquire ∧ l.stage = .frequency then setLane s i (enterTrack l) else s))

/-- ACQUIRE_TIMEOUT (R3): the lane restarts ACQUIRE. -/
def execAcquireTimeout (t : Instant) (i : LaneId) (s : State) : Host.Outcome State Fault Refusal :=
  .next (live t s (fun s =>
    let l := laneOf s i
    if l.state = .acquire ∧ due s l.timeout then setLane s i (enterAcquire s.now l) else s))

/-- WORD_BOUNDARY_FOUND (R4, R5): a lane in TRACK enters ALIGNED. -/
def execWordBoundaryFound (t : Instant) (i : LaneId) (s : State) : Host.Outcome State Fault Refusal :=
  .next (live t s (fun s =>
    let l := laneOf s i
    if l.state = .track then setLane s i (enterAligned l) else s))

/-- LOSS_OF_LOCK (R5): a lane in TRACK or ALIGNED goes to ACQUIRE; the tracker learns of a departure from ALIGNED
(R8 to R12). -/
def execLossOfLock (t : Instant) (i : LaneId) (s : State) : Host.Outcome State Fault Refusal :=
  .next (live t s (fun s =>
    let l := laneOf s i
    let s1 := setLane s i (enterAcquire s.now l)
    match l.state with
    | .aligned => laneGone s1 i
    | .track => s1
    | .off | .acquire => s))

/-- ONE_SHOT_TUNE_END (R5): the timing-tune mode becomes CONTINUOUS at the 256th word. -/
def execOneShotTuneEnd (t : Instant) (i : LaneId) (s : State) : Host.Outcome State Fault Refusal :=
  .next (live t s (fun s =>
    let l := laneOf s i
    if l.state = .aligned ∧ l.tune = .oneShot ∧ l.tuneWords = 256 then setLane s i { l with tune := .continuous } else s))

/-! ### Lane words (R1, R2, R6) -/

/-- The area mark agrees with the lane (R2). -/
def areaAgrees (s : State) (i : LaneId) (a : Area) : Bool :=
  s.mod.straps.singleLane || (match a with | .payload => i == 0 | .control => i == 1)

/-- CELL_WORD (R1, R2, R8): on an ALIGNED lane, the word goes to the fill area or to the control path by its mark. -/
def execCellWord (t : Instant) (i : LaneId) (a : Area) (w : CellWord) (b : ControlBlock) (s : State) :
    Host.Outcome State Fault Refusal :=
  .next (live t s (fun s =>
    let l := laneOf s i
    if l.state ≠ .aligned then s
    else
      let s1 := setLane s i (countWord l)
      if !areaAgrees s1 i a then s1
      else
        match a with
        | .payload => takePayloadWord s1 w
        | .control => if s1.mod.straps.singleLane ∨ s1.ftr.control.marked then takeControlWord s1 w b else s1))

/-- FRAME_START_MARKER (R1, R8 to R11, R15): a marker arrival on lane 0; on lane 1 it starts the pairing. -/
def execFrameStartMarker (t : Instant) (i : LaneId) (s : State) : Host.Outcome State Fault Refusal :=
  .next (live t s (fun s =>
    let l := laneOf s i
    if l.state ≠ .aligned then s
    else
      let s1 := setLane s i (goodWord l)
      if i = 0 then markerArrival s1 else controlMarker s1))

/-- FRONT_END_STATUS (R6, R12): the lane's quality; ABSENT on lane 0 is a signal-absent report. -/
def execFrontEndStatus (t : Instant) (i : LaneId) (isPresent : Bool) (quality : Byte) (s : State) :
    Host.Outcome State Fault Refusal :=
  .next (live t s (fun s =>
    let l := laneOf s i
    if l.state ≠ .aligned then s
    else
      let s1 := setLane s i { goodWord l with quality := quality }
      if i = 0 ∧ !isPresent ∧ s1.ftr.sync = .locked then endReception s1 else s1))

/-- IDLE (R1): the corrupt run is 0, and the word is dropped. -/
def execIdle (t : Instant) (i : LaneId) (s : State) : Host.Outcome State Fault Refusal :=
  .next (live t s (fun s =>
    let l := laneOf s i
    if l.state ≠ .aligned then s else setLane s i (goodWord l)))

/-- CORRUPT_CONTROL_WORD (R1, R5). -/
def execCorruptControlWord (t : Instant) (i : LaneId) (s : State) : Host.Outcome State Fault Refusal :=
  .next (live t s (fun s => corruptWord s i))

/-- FOURTH_CORRUPT_CONTROL_WORD (R5): the corrupt control word that brings the run to 4. -/
def execFourthCorruptControlWord (t : Instant) (i : LaneId) (s : State) : Host.Outcome State Fault Refusal :=
  .next (live t s (fun s => corruptWord s i))

end Sys2Proof.Machine
end

