-- ==== Sys2Proof/Machine/LinkCommands.lean ====
section
/-!
DEFINITION. The commands of the ensemble link: CONTENTION to PEER_AGING (R117 to R124, R146).
-/

namespace Sys2Proof.Machine

/-- CONTENTION (R117): the line becomes free, and a JOINED station contends with the head of its queue. -/
def execContention (t : Instant) (rivals : List ArbField) (s : State) : Host.Outcome State Fault Refusal :=
  .next (live t s (fun s => contend s rivals))

/-- ATTEMPT_END (R119): this station's attempt reads its end slot. -/
def execAttemptEnd (t : Instant) (rejected : Bool) (s : State) : Host.Outcome State Fault Refusal :=
  .next (live t s (fun s => endAttempt s rejected))

/-- REJECT (R118): a receiver judges the bits it read and drives the end slot accordingly. -/
def execReject (t : Instant) (start : Instant) (bits : List Bool) (s : State) : Host.Outcome State Fault Refusal :=
  .next (live t s (fun s =>
    if !isReceiver s start then s
    else setEndSlot s (if (judge bits).isSome then .recessive else .reject)))

/-- DUPLICATE_EVENT (R123): during an attempt, which is aborted, or by hearing. The attempt fails before the link enters
FAULT: DESIGN CHOICE, log 48. -/
def execDuplicateEvent (t : Instant) (how : DuplicateSource) (s : State) : Host.Outcome State Fault Refusal :=
  .next (live t s (fun s =>
    match how with
    | .attempt => if s.lnk.attempt.isSome then duplicateFault (abortAttempt s) else s
    | .hearing => duplicateFault s))

/-- LINE_STUCK (R122): an attempt on the line is aborted, and the link enters FAULT with record STUCK. The attempt fails
before the link leaves its state, so that the owner of an entry then dropped finds it JOINED: DESIGN CHOICE, log 48. -/
def execLineStuck (t : Instant) (s : State) : Host.Outcome State Fault Refusal :=
  .next (live t s (fun s =>
    if s.lnk.state = .offline ∨ s.lnk.permanent then s
    else
      let s1 := enterFault (abortAttempt s) .stuck none
      setLink s1 { s1.lnk with stuck := true }))

/-- LINE_GOES_RECESSIVE (R122): after a stuck hold the recovery timer starts at 10 ms. -/
def execLineGoesRecessive (t : Instant) (s : State) : Host.Outcome State Fault Refusal :=
  .next (live t s (fun s =>
    if s.lnk.stuck ∧ s.lnk.state = .fault ∧ !s.lnk.permanent then
      setLink s { s.lnk with stuck := false, recoveryTimer := some (s.now + recoveryTime) }
    else s))

/-- RECOVERY_TIMER (R122, R123): the link leaves FAULT for LISTENING. -/
def execRecoveryTimer (t : Instant) (s : State) : Host.Outcome State Fault Refusal :=
  .next (live t s (fun s =>
    if s.lnk.state = .fault ∧ !s.lnk.permanent ∧ due s s.lnk.recoveryTimer then enterListening s else s))

/-- RESTARTING becomes RUNNING, as mode or as the return mode of DRAINING (R179). -/
def endRestarting (s : State) : State :=
  let mode : Mode := if s.mod.mode = .restarting then .running else s.mod.mode
  let back := if s.mod.mode = .draining ∧ s.mod.returnMode = some .restarting then some Mode.running else s.mod.returnMode
  { s with mod := { s.mod with mode := mode, returnMode := back } }

/-- JOIN_TIMER (R120, R151, R179): the link enters JOINED; the adoption mark is SPENT; RESTARTING is over. -/
def execJoinTimer (t : Instant) (s : State) : Host.Outcome State Fault Refusal :=
  .next (live t s (fun s =>
    if s.lnk.state = .listening ∧ due s s.lnk.joinTimer then
      endRestarting (spendMark (setLink s { s.lnk with state := .joined, joinTimer := none }))
    else s))

/-- PEER_AGING (R146): a peer from which no STATUS has come for 216 ms becomes absent. -/
def execPeerAging (t : Instant) (p : Station) (s : State) : Host.Outcome State Fault Refusal :=
  .next (live t s (fun s =>
    let q := s.sub.peers.get p
    if q.isPresent ∧ due s q.aging then setPeer s p q.gone else s))

end Sys2Proof.Machine
end

