-- ==== Sys2Proof/Machine/MessageCommands.lean ====
section
/-!
DEFINITION. The completed messages: PARCEL to RELEASE, and UNKNOWN_KIND_MESSAGE (R42, R118, R131 to R133, R137, R138,
R145).
-/

namespace Sys2Proof.Machine

/-- PARCEL (R131, R158): the stream-frame is resolved, with the carry-out field of the message. -/
def execParcel (t : Instant) (m : Incoming) (s : State) : Host.Outcome State Fault Refusal :=
  .next (live t s (fun s => receive s .parcel m (fun s m =>
    resolve s (streamOfByte m.header.stream) (frameOfField m.header.frame) (carryOfField (word16 m.body 8)))))

/-- GAP (R131, R158): the stream-frame is resolved, with carry-in UNKNOWN. -/
def execGap (t : Instant) (m : Incoming) (s : State) : Host.Outcome State Fault Refusal :=
  .next (live t s (fun s => receive s .gap m (fun s m =>
    resolve s (streamOfByte m.header.stream) (frameOfField m.header.frame) none)))

/-- A peer's STATUS (R145): peer table, then adoption, tie-break, and the map unit's evidence and marks. -/
def hearStatus (s : State) (m : LinkMessage) : State :=
  let p : Station := Fin.ofNat 8 m.header.source.toNat
  let report := peerOfStatus m (s.now + joinTime)
  let s1 := setPeer s p report
  let s2 := if s1.sub.armed ∧ s1.lnk.state = .listening then adoptSubscriptions s1 report.subs else s1
  raiseMarks (weighStatus (tieBreak s2 p) report) report

/-- STATUS (R145). This station's own is disregarded (R144). -/
def execStatus (t : Instant) (m : Incoming) (s : State) : Host.Outcome State Fault Refusal :=
  .next (live t s (fun s => receive s .status m hearStatus))

/-- MAP (R42, R43). This station's own is disregarded but for its completion (R41). -/
def execMap (t : Instant) (m : Incoming) (s : State) : Host.Outcome State Fault Refusal :=
  .next (live t s (fun s => receive s .map m (fun s m => hearNotice s (noticeOf m))))

/-- TRACE (R133): handed to no block. -/
def execTrace (t : Instant) (m : Incoming) (s : State) : Host.Outcome State Fault Refusal :=
  .next (live t s (fun s => receive s .trace m (fun s _ => s)))

/-- DRAINED (R133, R178): this station's own ends DRAINING; a peer's goes to no block. -/
def execDrained (t : Instant) (m : Incoming) (s : State) : Host.Outcome State Fault Refusal :=
  .next (live t s (fun s => receive s .drained m (fun s _ => s)))

/-- QUIESCED (R133, R181): this station's own ends QUIESCING; a peer's goes to no block. -/
def execQuiesced (t : Instant) (m : Incoming) (s : State) : Host.Outcome State Fault Refusal :=
  .next (live t s (fun s => receive s .quiesced m (fun s _ => s)))

/-- SUBSCRIBE (R137, R139). -/
def execSubscribe (t : Instant) (m : LinkMessage) (s : State) : Host.Outcome State Fault Refusal :=
  .next (live t s (fun s => hear s .subscribe m (fun s =>
    applySubscribe s { stream := streamOfByte m.header.stream, consumer := m.header.source, requested := requestedClass m,
                       effective := .background, trace := traceOption m, units := unitsOption m })))

/-- RELEASE (R138, R139). -/
def execRelease (t : Instant) (m : LinkMessage) (s : State) : Host.Outcome State Fault Refusal :=
  .next (live t s (fun s => hear s .release m (fun s => applyRelease s (streamOfByte m.header.stream) m.header.source)))

/-- UNKNOWN_KIND_MESSAGE (R118, R132): a complete message whose kind code names no kind counts as a control error, and is
no DUPLICATE event whatever its source: DESIGN CHOICE, log 59. -/
def execUnknownKindMessage (t : Instant) (code : Byte) (m : LinkMessage) (s : State) : Host.Outcome State Fault Refusal :=
  .next (live t s (fun s =>
    if !isReceiver s m.start ∨ (kindOfCode code).isSome then s
    else if !bodyWhole m then setEndSlot s .reject
    else countControlError (setEndSlot s .recessive)))

end Sys2Proof.Machine
end

