-- ==== Sys2Proof/Machine/RequestCommands.lean ====
section
/-!
DEFINITION. The device requests: ENSEMBLE_CHANGE, RESTART, QUIESCE, RESUME (chapter 11).
-/

namespace Sys2Proof.Machine

/-- A STATUS entry, which ENSEMBLE_CHANGE and RESTART leave in the queue. -/
def isStatusEntry (e : Entry) : Bool := e.kind == .status

/-- The return mode of a DRAINING entered now (R176). -/
def drainReturn (s : State) : Option Mode := if s.mod.mode = .draining then s.mod.returnMode else some s.mod.mode

/-- The tracker at an ENSEMBLE_CHANGE (R9): pin-reset values, the new expected id, the count kept. -/
def retune (s : State) (id : EnsembleId) : State :=
  setTracker s { Tracker.reset with count := s.ftr.count, expected := some id, control := idleControl s.ftr.control }

/-- Subscriptions, peers, cursors and releases at an ENSEMBLE_CHANGE (R152, R166). -/
def forgetUsers (s : State) : State :=
  { s with sub := { s.sub with table := [], foregroundLoad := 0, claims := [], claimLoad := 0, claimsOpen := false,
                               peers := s.sub.peers.update (fun _ => Peer.absent) },
           dlv := Delivery.reset }

/-- DRAINING is entered (R176, R177). -/
def enterDraining (s : State) : State := { s with mod := { s.mod with mode := .draining, returnMode := drainReturn s } }

/-- The work that an ENSEMBLE_CHANGE abandons: jobs, contexts, arrival record, parcel records, and every queue entry but
a STATUS (R177). -/
def abandonAll (s : State) : State := clearQueue (emptyStore (emptyArrivals (stopEngines s))) isStatusEntry

/-- What an ENSEMBLE_CHANGE forgets: maps, subscriptions, peers, cursors, slots (R177). -/
def forgetEnsemble (s : State) : State := emptySlots (forgetUsers (setMaps s MapUnit.reset))

/-- The ENSEMBLE_CHANGE to ensemble `id` (R177). Frame time ends, so the status timer starts where it was stopped
(R167). -/
def ensembleChange (s : State) (id : EnsembleId) : State :=
  let s1 := retune (forgetEnsemble (abandonAll (enterDraining s))) id
  offerNotice (if s.ftr.sync == .locked || s.ftr.sync == .holdover then startStatusTimer s1 else s1) .drained

/-- The link at a RESTART (R121, R179): JOINED or LISTENING enters LISTENING afresh, FAULT stays. -/
def relisten (s : State) : State :=
  match s.lnk.state with
  | .joined => enterListening s
  | .listening => armAdoption (setLink s { s.lnk with joinTimer := some (s.now + joinTime) })
  | .offline | .fault => s

/-- The map unit at a RESTART: no checkpoint marker, no mark, no hold-off (R25). -/
def restartMaps (s : State) : State :=
  setMaps s { s.maps with marker := none, wantCurrent := false, wantNext := false, holdOff := none }

/-- The RESTART for this station (R179). -/
def restartWork (s : State) : State :=
  restartPass (relisten (settleClaims (restartMaps
    (clearQueue (emptyStore (stopEngines (setMode s .restarting))) isStatusEntry))))

/-- RESTART in each mode (R176). -/
def restart (s : State) : State := if s.mod.mode = .draining then s else restartWork s

/-- The entries that QUIESCE withdraws (R180). -/
def copyEntry (e : Entry) : Bool := e.kind == .parcel || e.kind == .gap || e.kind == .trace

/-- The QUIESCE taken in RUNNING (R180, R181). -/
def quiesceWork (s : State) : State :=
  reportIdle (settleClaims (emptyStore (withdraw (quiesceJobs (setMode s .quiescing)) copyEntry)))

/-- QUIESCE in each mode (R176). -/
def quiesce (s : State) : State := if s.mod.mode = .running then quiesceWork s else s

/-- The RESUME taken in QUIESCING or QUIESCED (R182). -/
def resumeWork (s : State) : State :=
  settleJobs (testNotice (withdraw (resumeContexts (setMode s .running)) (fun e => e.kind == .quiesced)))

/-- RESUME in each mode (R176, R182). -/
def resume (s : State) : State :=
  match s.mod.mode with
  | .quiescing | .quiesced => resumeWork s
  | .draining =>
    if s.mod.returnMode = some .quiescing ∨ s.mod.returnMode = some .quiesced then
      { s with mod := { s.mod with returnMode := some .running } }
    else s
  | .running | .restarting => s

/-- ENSEMBLE_CHANGE (R177). -/
def execEnsembleChange (t : Instant) (m : LinkMessage) (s : State) : Host.Outcome State Fault Refusal :=
  .next (live t s (fun s => hear s .ensembleChange m (fun s => ensembleChange s (word16 m.body 0))))

/-- RESTART (R133, R179). -/
def execRestart (t : Instant) (m : LinkMessage) (s : State) : Host.Outcome State Fault Refusal :=
  .next (live t s (fun s => hear s .restart m (fun s => if addressed s m then restart s else s)))

/-- QUIESCE (R133, R180). -/
def execQuiesce (t : Instant) (m : LinkMessage) (s : State) : Host.Outcome State Fault Refusal :=
  .next (live t s (fun s => hear s .quiesce m (fun s => if addressed s m then quiesce s else s)))

/-- RESUME (R133, R182). -/
def execResume (t : Instant) (m : LinkMessage) (s : State) : Host.Outcome State Fault Refusal :=
  .next (live t s (fun s => hear s .resume m (fun s => if addressed s m then resume s else s)))

end Sys2Proof.Machine
end

