-- ==== Sys2Proof/Machine/TimerCommands.lean ====
section
/-!
DEFINITION. The commands of the copies' and the reports' timers: OFFER_INSTANT to DEADLINE (R41, R103, R107, R162,
R167). A command that ends a timer acts where the timer has come to its instant (log 2).
-/

namespace Sys2Proof.Machine

/-- OFFER_INSTANT (R103): a WAITING record is handed to the delivery unit. -/
def execOfferInstant (t : Instant) (x : StreamId) (f : FrameCount) (s : State) : Host.Outcome State Fault Refusal :=
  .next (live t s (fun s =>
    match recordOf s x f with
    | some r => if r.state = .waiting ∧ due s r.offerAt then handOver s r else s
    | none => s))

/-- DISCARD_INSTANT (R107): an unusable HELD record is freed. -/
def execDiscardInstant (t : Instant) (x : StreamId) (f : FrameCount) (s : State) : Host.Outcome State Fault Refusal :=
  .next (live t s (fun s =>
    match recordOf s x f with
    | some r => if r.state = .held ∧ due s r.discardAt then freeRecord s x f else s
    | none => s))

/-- STATUS_TIMER (R167): a cadence point, and the timer restarts at 72 ms. -/
def execStatusTimer (t : Instant) (s : State) : Host.Outcome State Fault Refusal :=
  .next (live t s (fun s =>
    if due s s.mod.statusTimer then cadencePoint (setStatusTimer s (some (s.now + framePeriod))) else s))

/-- NOTICE_HOLD_OFF (R41): the hold-off ends and the conditions are tested. -/
def execNoticeHoldOff (t : Instant) (s : State) : Host.Outcome State Fault Refusal :=
  .next (live t s (fun s =>
    if due s s.maps.holdOff then testNotice (setMaps s { s.maps with holdOff := none }) else s))

/-- DEADLINE (R162): the deadline of a stream's cursor frame expires. -/
def execDeadline (t : Instant) (x : StreamId) (s : State) : Host.Outcome State Fault Refusal :=
  .next (live t s (fun s =>
    match cursorOf s x with
    | some c =>
      match c.cursor, c.deadline with
      | some f, .running d => if d ≤ s.now then expireDeadline s x f else s
      | _, _ => s
    | none => s))

end Sys2Proof.Machine
end

