-- ==== Sys2Proof/Machine/Dispatch.lean ====
section
/-!
DEFINITION. One arm per command, each a direct call of its meaning.
-/

namespace Sys2Proof.Machine

def exec (i : Instr) (s : State) : Host.Outcome State Fault Refusal :=
  match i with
  | .pinResetAssert t => Sys2Proof.Machine.execPinResetAssert t s
  | .pinResetRelease t straps => Sys2Proof.Machine.execPinResetRelease t straps s
  | .equaliserAutoZero t lane pol => Sys2Proof.Machine.execEqualiserAutoZero t lane pol s
  | .lockReport t lane => Sys2Proof.Machine.execLockReport t lane s
  | .acquireTimeout t lane => Sys2Proof.Machine.execAcquireTimeout t lane s
  | .wordBoundaryFound t lane => Sys2Proof.Machine.execWordBoundaryFound t lane s
  | .lossOfLock t lane => Sys2Proof.Machine.execLossOfLock t lane s
  | .oneShotTuneEnd t lane => Sys2Proof.Machine.execOneShotTuneEnd t lane s
  | .cellWord t lane area cells block => Sys2Proof.Machine.execCellWord t lane area cells block s
  | .frameStartMarker t lane => Sys2Proof.Machine.execFrameStartMarker t lane s
  | .frontEndStatus t lane present quality => Sys2Proof.Machine.execFrontEndStatus t lane present quality s
  | .idle t lane => Sys2Proof.Machine.execIdle t lane s
  | .corruptControlWord t lane => Sys2Proof.Machine.execCorruptControlWord t lane s
  | .fourthCorruptControlWord t lane => Sys2Proof.Machine.execFourthCorruptControlWord t lane s
  | .markerWindowClose t => Sys2Proof.Machine.execMarkerWindowClose t s
  | .flywheelPayloadEnd t => Sys2Proof.Machine.execFlywheelPayloadEnd t s
  | .entryToLost t => Sys2Proof.Machine.execEntryToLost t s
  | .releaseInstant t frame => Sys2Proof.Machine.execReleaseInstant t frame s
  | .contextMoveComplete t engine => Sys2Proof.Machine.execContextMoveComplete t engine s
  | .decodeEnd t engine found => Sys2Proof.Machine.execDecodeEnd t engine found s
  | .offerInstant t stream frame => Sys2Proof.Machine.execOfferInstant t stream frame s
  | .discardInstant t stream frame => Sys2Proof.Machine.execDiscardInstant t stream frame s
  | .statusTimer t => Sys2Proof.Machine.execStatusTimer t s
  | .noticeHoldOff t => Sys2Proof.Machine.execNoticeHoldOff t s
  | .deadline t stream => Sys2Proof.Machine.execDeadline t stream s
  | .contention t rivals => Sys2Proof.Machine.execContention t rivals s
  | .attemptEnd t rejected => Sys2Proof.Machine.execAttemptEnd t rejected s
  | .reject t start bits => Sys2Proof.Machine.execReject t start bits s
  | .duplicateEvent t how => Sys2Proof.Machine.execDuplicateEvent t how s
  | .lineStuck t => Sys2Proof.Machine.execLineStuck t s
  | .lineGoesRecessive t => Sys2Proof.Machine.execLineGoesRecessive t s
  | .recoveryTimer t => Sys2Proof.Machine.execRecoveryTimer t s
  | .joinTimer t => Sys2Proof.Machine.execJoinTimer t s
  | .peerAging t peer => Sys2Proof.Machine.execPeerAging t peer s
  | .parcel t m => Sys2Proof.Machine.execParcel t m s
  | .gap t m => Sys2Proof.Machine.execGap t m s
  | .status t m => Sys2Proof.Machine.execStatus t m s
  | .map t m => Sys2Proof.Machine.execMap t m s
  | .trace t m => Sys2Proof.Machine.execTrace t m s
  | .drained t m => Sys2Proof.Machine.execDrained t m s
  | .quiesced t m => Sys2Proof.Machine.execQuiesced t m s
  | .subscribe t m => Sys2Proof.Machine.execSubscribe t m s
  | .release t m => Sys2Proof.Machine.execRelease t m s
  | .ensembleChange t m => Sys2Proof.Machine.execEnsembleChange t m s
  | .restart t m => Sys2Proof.Machine.execRestart t m s
  | .quiesce t m => Sys2Proof.Machine.execQuiesce t m s
  | .resume t m => Sys2Proof.Machine.execResume t m s
  | .unknownKindMessage t code m => Sys2Proof.Machine.execUnknownKindMessage t code m s

end Sys2Proof.Machine
end

