-- ==== Sys2Proof/WellFormed.lean ====
section
/-!
DEFINITION. Well-formed commands: operands that the part's surroundings can give it. A meaning answers on ill-formed
operands too; the checks say which commands a sender may put into the queue.
-/

namespace Sys2Proof

open Sys2Proof.Machine

/-- The local instant a command carries (log 1). -/
def Instr.instant : Instr → Instant
  | .pinResetAssert t | .pinResetRelease t _ | .equaliserAutoZero t _ _ | .lockReport t _ | .acquireTimeout t _ => t
  | .wordBoundaryFound t _ | .lossOfLock t _ | .oneShotTuneEnd t _ | .cellWord t _ _ _ _ | .frameStartMarker t _ => t
  | .frontEndStatus t _ _ _ | .idle t _ | .corruptControlWord t _ | .fourthCorruptControlWord t _ => t
  | .markerWindowClose t | .flywheelPayloadEnd t | .entryToLost t | .releaseInstant t _ => t
  | .contextMoveComplete t _ | .decodeEnd t _ _ | .offerInstant t _ _ | .discardInstant t _ _ => t
  | .statusTimer t | .noticeHoldOff t | .deadline t _ | .contention t _ | .attemptEnd t _ | .reject t _ _ => t
  | .duplicateEvent t _ | .lineStuck t | .lineGoesRecessive t | .recoveryTimer t | .joinTimer t | .peerAging t _ => t
  | .parcel t _ | .gap t _ | .status t _ | .map t _ | .trace t _ | .drained t _ | .quiesced t _ => t
  | .subscribe t _ | .release t _ | .ensembleChange t _ | .restart t _ | .quiesce t _ | .resume t _ => t
  | .unknownKindMessage t _ _ => t

/-- A message that completes at `t` began no later and holds as many body bytes as its header says (R115, R118). -/
def messageWhole (t : Instant) (m : LinkMessage) : Bool := decide (m.start ≤ t) && bodyWhole m

/-- The same of a completed message of a Tarcen kind. -/
def incomingWhole (t : Instant) : Incoming → Bool
  | .own => true
  | .heard m => messageWhole t m

/-- What an inner decoder can find in one job: at most 57,600 code bits, 3 to 6,000 bytes, 64 metrics (R23, R67, R84). -/
def decodedInRange (d : Decoded) : Bool :=
  decide (d.code.length ≤ 57600) && decide (3 ≤ d.bytes.length ∧ d.bytes.length ≤ 6000) && d.metrics.length == 64

/-- At most seven other stations contend, each with its own field (R116). -/
def rivalsInRange (rivals : List ArbField) : Bool := decide (rivals.length ≤ 7) && decide rivals.Nodup

/-- The bits of a message start with its dominant start bit, before `t` (R115). -/
def bitsInRange (t start : Instant) (bits : List Bool) : Bool := decide (start ≤ t) && bits.head? == some false

/-- A well-formed command. -/
def Instr.wellFormed : Instr → Bool
  | .pinResetAssert _ | .pinResetRelease _ _ | .equaliserAutoZero _ _ _ | .lockReport _ _ | .acquireTimeout _ _ => true
  | .wordBoundaryFound _ _ | .lossOfLock _ _ | .oneShotTuneEnd _ _ | .cellWord _ _ _ _ _ | .frameStartMarker _ _ => true
  | .frontEndStatus _ _ _ _ | .idle _ _ | .corruptControlWord _ _ | .fourthCorruptControlWord _ _ => true
  | .markerWindowClose _ | .flywheelPayloadEnd _ | .entryToLost _ | .releaseInstant _ _ => true
  | .contextMoveComplete _ _ | .offerInstant _ _ _ | .discardInstant _ _ _ | .statusTimer _ | .noticeHoldOff _ => true
  | .deadline _ _ | .attemptEnd _ _ | .duplicateEvent _ _ | .lineStuck _ | .lineGoesRecessive _ => true
  | .recoveryTimer _ | .joinTimer _ => true
  | .decodeEnd _ _ d => decodedInRange d
  | .contention _ rivals => rivalsInRange rivals
  | .reject t start bits => bitsInRange t start bits
  | .peerAging _ p => decide (p.val ≤ 3)
  | .parcel t m | .gap t m | .status t m | .map t m | .trace t m | .drained t m | .quiesced t m => incomingWhole t m
  | .subscribe t m | .release t m | .ensembleChange t m | .restart t m | .quiesce t m | .resume t m => messageWhole t m
  | .unknownKindMessage t code m => messageWhole t m && (kindOfCode code).isNone

end Sys2Proof
end

