-- ==== Sys2Proof/Safety.lean ====
section
/-!
DEFINITION. The terms that statements use: the part listening to commands, the parts of State a command may change, a
message taken, and the laws of each table that spec/ says hold at all times.
-/

namespace Sys2Proof.Machine

/-! ### What a command finds -/

/-- The state as a command of instant `t` finds it. -/
def State.clocked (s : State) (t : Instant) : State := { s with now := max s.now t }

/-- A station that may hold no claims holds none (R147, R149). -/
def Settled (s : State) : Prop :=
  claimsAllowed s = true ∨ (s.sub.claims = [] ∧ s.sub.claimLoad = 0 ∧ s.sub.claimsOpen = false)

/-- RESET_N is high, and claims are settled. -/
def Awake (s : State) : Prop := s.held = false ∧ Settled s

/-- PIN_RESET_ASSERT or PIN_RESET_RELEASE. -/
def isPinReset : Instr → Bool
  | .pinResetAssert _ | .pinResetRelease _ _ => true
  | _ => false

/-- A message of kind `k` that this station receives, judges sound, lets through its filter, and did not send (R118,
R123, R132). -/
def Heard (s : State) (k : MsgKind) (m : LinkMessage) : Prop :=
  isReceiver s m.start = true ∧ bodyWhole m = true ∧ filterPasses k m = true ∧
    m.header.source.toNat ≠ s.mod.straps.station.val

/-- A subscription without its effective class, which the class review sets (R140). -/
def Subscription.asked (e : Subscription) : Subscription := { e with effective := .background }

/-- The arbitration field of R116 for this station: class × 8192 + rank × 8 + station number. -/
def ownField (s : State) (cls rank : Nat) : ArbField := BitVec.ofNat 16 (cls * 8192 + rank * 8 + s.mod.straps.station.val)

/-- The queue has room for an entry of this kind and stream-frame: it takes entries, holds none like it, and holds fewer
than 24 (R124 to R127). -/
def RoomFor (s : State) (k : MsgKind) (x : Option StreamId) (f : Option FrameCount) : Prop :=
  s.lnk.state ≠ .offline ∧ queued s k x f = false ∧ s.lnk.queue.length < 24

/-- A CELL_WORD on lane `i` is the 7,200th payload word of frame `f`, the named frame in progress, received from a marker;
`ws` are the words gathered before it, newest first (R8, R46). -/
def LastPayloadWord (s : State) (i : LaneId) (f : Frame) (ws : List CellWord) : Prop :=
  Awake s ∧ (laneOf s i).state = .aligned ∧ (s.mod.straps.singleLane = true ∨ i = 0) ∧ s.ftr.frame = some f ∧
    f.kind = .reception ∧ f.named = true ∧ f.payloadEnded = false ∧ f.payloadWords = 7199 ∧
    s.ilm.fill = some ws ∧ ws.length = 7199

/-- A CELL_WORD on lane `i` is the 48th word of a control block of frame `f`, in progress and received, of which all the
words before it were kept (R8, R20). -/
def CompletesBlock (s : State) (i : LaneId) (f : Frame) : Prop :=
  Awake s ∧ (laneOf s i).state = .aligned ∧
    (s.mod.straps.singleLane = true ∨ (i = 1 ∧ s.ftr.control.marked = true)) ∧
    s.ftr.frame = some f ∧ isReceived f = true ∧ f.controlEnded = false ∧ s.ftr.control.pairing = .current ∧
    s.ftr.control.words < 383 ∧ (s.ftr.control.words + 1) % 48 = 0 ∧ s.ftr.control.block.length = 47

/-- The state once that word is counted, before what the block decodes to has its effect. -/
def blockCounted (s : State) (t : Instant) (i : LaneId) : State :=
  { setLane (s.clocked t) i { laneOf s i with tuneWords := min 256 ((laneOf s i).tuneWords + 1) } with
    ftr := { s.ftr with control := { s.ftr.control with words := s.ftr.control.words + 1, block := [] } } }

/-- The claims of `u` are those of a claim review at `s`: every one eligible, and none but those held before listed by a
present peer; the decode load at most 480; every claim held before that is eligible kept where they all fit; and no
candidate left out that fits in the spare capacity (R147, R148). -/
def ClaimsTaken (s u : State) : Prop :=
  (∀ x ∈ u.sub.claims, eligible s x = true ∧ (x ∈ s.sub.claims ∨ peerClaims s x = false)) ∧
  u.sub.foregroundLoad = s.sub.foregroundLoad ∧ u.sub.claimLoad = grainSum s u.sub.claims ∧
  (s.sub.foregroundLoad ≤ 480 → s.sub.foregroundLoad + u.sub.claimLoad ≤ 480) ∧
  (s.sub.foregroundLoad + grainSum s (s.sub.claims.filter (eligible s)) ≤ 480 →
    ∀ x ∈ s.sub.claims, eligible s x = true → x ∈ u.sub.claims) ∧
  ∀ x, eligible s x = true → peerClaims s x = false → x ∉ u.sub.claims →
    480 < s.sub.foregroundLoad + u.sub.claimLoad + s.maps.current.grainsOf x

/-! ### What a command may change -/

/-- The parts of State that operations are measured by. -/
inductive Part where
  | time
  | held
  | lanes
  | tracker
  | mapUnit
  | slots
  | scheduler
  | arrivals
  | store
  | pageMem
  | queue
  | line
  | table
  | claims
  | peers
  | cursors
  | releaseList
  | counters
  | mode
  | statusTimer
  | straps
  | pending
  deriving DecidableEq, Repr

/-- Two states agree in a part. -/
def sameIn (a b : State) : Part → Prop
  | .time => b.now = a.now
  | .held => b.held = a.held
  | .lanes => b.lanes = a.lanes
  | .tracker => b.ftr = a.ftr
  | .mapUnit => b.maps = a.maps
  | .slots => b.ilm = a.ilm
  | .scheduler => b.jsc.jobs = a.jsc.jobs ∧ b.jsc.engines = a.jsc.engines ∧ b.jsc.contexts = a.jsc.contexts
  | .arrivals => b.jsc.arrivals = a.jsc.arrivals
  | .store => b.pst.records = a.pst.records ∧ b.pst.freePages = a.pst.freePages
  | .pageMem => b.pst.pageMem = a.pst.pageMem
  | .queue => b.lnk.queue = a.lnk.queue ∧ b.lnk.nextUid = a.lnk.nextUid
  | .line => { b.lnk with queue := a.lnk.queue, nextUid := a.lnk.nextUid } = a.lnk
  | .table => b.sub.table = a.sub.table ∧ b.sub.foregroundLoad = a.sub.foregroundLoad ∧ b.sub.armed = a.sub.armed
  | .claims => b.sub.claims = a.sub.claims ∧ b.sub.claimLoad = a.sub.claimLoad ∧ b.sub.claimsOpen = a.sub.claimsOpen
  | .peers => b.sub.peers = a.sub.peers
  | .cursors => b.dlv.cursors = a.dlv.cursors
  | .releaseList => b.dlv.releaseList = a.dlv.releaseList
  | .counters => b.mod.counters = a.mod.counters
  | .mode => b.mod.mode = a.mod.mode ∧ b.mod.returnMode = a.mod.returnMode
  | .statusTimer => b.mod.statusTimer = a.mod.statusTimer
  | .straps => b.mod.straps = a.mod.straps
  | .pending => b.pending = a.pending

/-- From `a` to `b` no part but those listed has changed. -/
def Within (ps : List Part) (a b : State) : Prop := ∀ p, p ∉ ps → sameIn a b p

/-! ### Laws of the tables -/

/-- Claims are held only while the three conditions of R147 hold; each claimed stream is eligible, the list is in
ascending order, its load is the sum of its grain counts, and the decode load is at most 480 (R136, R147, R148). -/
def ClaimsSound (s : State) : Prop :=
  (s.held = false → Settled s) ∧ (s.sub.claimsOpen = false → s.sub.claims = []) ∧
  s.sub.claims.Pairwise (· < ·) ∧ (∀ x ∈ s.sub.claims, eligible s x = true) ∧
  s.sub.claimLoad = grainSum s s.sub.claims ∧ s.sub.foregroundLoad + s.sub.claimLoad ≤ 480

/-- Effective classes and foreground load are those that a class review would give (R140, R141). -/
def ClassesReviewed (s : State) : Prop := classReview s = s

/-- The cursor table has one entry for each subscribed stream, in ascending order, and every parcel record is of a
subscribed stream (R153, R155, R109). -/
def CursorsSound (s : State) : Prop :=
  (s.dlv.cursors.map (·.stream)).Pairwise (· < ·) ∧ (∀ x, (cursorOf s x).isSome = names s.sub.table x) ∧
  ∀ r ∈ s.pst.records, names s.sub.table r.stream = true

/-- No PARCEL or GAP of a stream-frame is queued while the stream's cursor is set to another frame, nor a GAP while it
is UNSET (R159). -/
def AnswersSound (s : State) : Prop :=
  (∀ e ∈ s.lnk.queue, e.kind = .gap → ∃ x f, e.stream = some x ∧ e.frame = some f ∧ cursorFrame s x = some f) ∧
  (∀ e ∈ s.lnk.queue, e.kind = .parcel → ∃ x f, e.stream = some x ∧ e.frame = some f ∧
    (cursorFrame s x = none ∨ cursorFrame s x = some f))

/-- The transmit queue holds at most 24 entries, in ascending arbitration field, and no two of the same kind for the
same stream and frame (R125, R126). -/
def QueueSound (s : State) : Prop :=
  s.lnk.queue.length ≤ 24 ∧ s.lnk.queue.Pairwise (fun a b => a.arb ≤ b.arb) ∧
  s.lnk.queue.Pairwise (fun a b => ¬(a.kind = b.kind ∧ a.stream = b.stream ∧ a.frame = b.frame))

/-- The page memory keeps its canonical form. -/
def MemorySound (s : State) : Prop := s.pst.pageMem.wf

/-- At most 48 parcel records are held, no two of one stream-frame, and every page stands exactly once, on the free-page
list or on the page list of a record (R99, R100). -/
def PagesSound (s : State) : Prop :=
  s.pst.records.length ≤ 48 ∧ (s.pst.records.map (fun r => (r.stream, r.frame))).Nodup ∧
  (s.pst.freePages ++ s.pst.records.flatMap (·.pages)).Perm (List.finRange 256)

/-- A return mode is held in DRAINING alone and is never DRAINING; a JOINED station is not in RESTARTING, nor will it
return to it (R176, R179). -/
def ModeSound (s : State) : Prop :=
  (s.mod.returnMode.isSome = true ↔ s.mod.mode = .draining) ∧ s.mod.returnMode ≠ some .draining ∧
  (s.lnk.state = .joined → s.mod.mode ≠ .restarting ∧ s.mod.returnMode ≠ some .restarting)

/-- In single-lane mode lane 1 is OFF (R2). -/
def LanesSound (s : State) : Prop := s.mod.straps.singleLane = true → (laneOf s 1).state = .off

/-- The tracker is out of frame time: SEARCH or LOST. -/
def untimed (s : State) : Prop := s.ftr.sync = .search ∨ s.ftr.sync = .lost

/-- The flywheel count does not go past 42; no frame is in progress, and there is no marker timing, in SEARCH and LOST
alone (R9, R14, R17); the status timer runs in SEARCH, PROVISIONAL and LOST alone (R167). -/
def TrackerSound (s : State) : Prop :=
  s.ftr.flywheel ≤ 42 ∧ (s.ftr.frame = none ↔ untimed s) ∧ (s.ftr.marker = none ↔ untimed s) ∧
  (s.held = false → (s.mod.statusTimer = none ↔ s.ftr.sync = .locked ∨ s.ftr.sync = .holdover))

/-- The job table holds at most 32 jobs, no two of one stream-frame (R57, R60); an engine is BUSY with exactly the job
that runs on it, and no two jobs of a stream run at once (R61, R64). -/
def JobsSound (s : State) : Prop :=
  s.jsc.jobs.length ≤ 32 ∧ (s.jsc.jobs.map (fun j => (j.stream, j.frame))).Nodup ∧
  (∀ e x f, (engineOf s e).job = some (x, f) ↔
    ∃ j ∈ s.jsc.jobs, j.stream = x ∧ j.frame = f ∧ underWay j = true ∧ j.engine = e) ∧
  (∀ j ∈ s.jsc.jobs, ∀ k ∈ s.jsc.jobs, underWay j = true → underWay k = true → j.stream = k.stream → j.frame = k.frame)

/-- A permanent FAULT is a FAULT by DUPLICATE whose recovery timer is stopped (R123). -/
def FaultSound (s : State) : Prop :=
  s.lnk.permanent = true → s.lnk.state = .fault ∧ s.lnk.faultRecord = .duplicate ∧ s.lnk.recoveryTimer = none

/-- Every counter of `b` stands at least as high as in `a` (R170). -/
def countersRise (a b : Counters) : Prop :=
  a.controlErrors ≤ b.controlErrors ∧ a.lateParcels ≤ b.lateParcels ∧ a.storeDrops ≤ b.storeDrops ∧
  a.queueDrops ≤ b.queueDrops ∧ a.traceDrops ≤ b.traceDrops ∧ a.linkDrops ≤ b.linkDrops ∧ a.slips ≤ b.slips

end Sys2Proof.Machine
end

