-- ==== Sys2Proof/Certificates/Slice0/Obligations.lean ====
section
/-!
DEFINITION. What this model claims of the Tarcen 340, each claim a Prop for the provers. `max s.now t` is the local
instant at which a command of instant `t` acts (log 1).
-/

open Sys2Proof Sys2Proof.Machine

/-! ### The machine -/

/-- A step runs the command at the front of the queue on the state with the queue's rest; with no command waiting the
part idles. The idling is the model's choice (log 4). -/
def Obligations.StepRunsFrontCommand : Prop :=
  (∀ (s : State) (c : Instr) (rest : List Instr), s.pending = c :: rest → step s = exec c { s with pending := rest }) ∧
  (∀ s : State, s.pending = [] → step s = .next s)

/-- No command faults or is refused, and none touches the queue of commands, which is the model's own (log 4). -/
def Obligations.CommandsAnswerAndLeaveQueue : Prop :=
  ∀ (c : Instr) (s : State), ∃ u, exec c s = .next u ∧ u.pending = s.pending

/-- PIN_RESET_RELEASE: every block takes the values that R174's table and the rules it names give. -/
def Obligations.PinResetReleaseValues : Prop :=
  ∀ (s : State) (t : Instant) (straps : Straps), ∃ u, exec (.pinResetRelease t straps) s = .next u ∧
    u.now = max s.now t ∧ u.held = false ∧ u.mod.straps = straps ∧
    (∀ i : LaneId, (laneOf u i).polarity = none ∧ (laneOf u i).tune = .none ∧ (laneOf u i).corruptRun = 0 ∧
      (laneOf u i).quality = 0 ∧
      if i = 1 ∧ straps.singleLane = true then (laneOf u i).state = .off
      else (laneOf u i).state = .acquire ∧ (laneOf u i).stage = .autoZero ∧
        (laneOf u i).autoZeroEnd = some (max s.now t + 250000) ∧ (laneOf u i).timeout = some (max s.now t + 2000000)) ∧
    u.ftr.sync = .search ∧ u.ftr.count = 0 ∧ u.ftr.expected = none ∧ u.ftr.flywheel = 0 ∧ u.ftr.marker = none ∧
    u.ftr.frame = none ∧ u.ftr.payloadOffset = 70000000 ∧ u.ftr.releases = [] ∧
    u.maps.current.state = .none ∧ u.maps.current.entries = [] ∧ u.maps.next.state = .none ∧ u.maps.next.entries = [] ∧
    u.maps.outgoing = none ∧ u.maps.marker = none ∧ u.maps.wantCurrent = false ∧ u.maps.wantNext = false ∧
    u.maps.holdOff = none ∧ u.maps.current.deferred = none ∧ u.maps.next.deferred = none ∧
    (∀ n : Fin 8, (u.ilm.slots.get n).tag = none ∧ (u.ilm.slots.get n).received = false ∧
      (u.ilm.slots.get n).whole = false) ∧ u.ilm.fill = none ∧ u.ilm.fillRun = 0 ∧
    u.jsc.jobs = [] ∧ u.jsc.arrivals = [] ∧
    (∀ e : EngineId, (engineOf u e).job = none ∧ (engineOf u e).held = none) ∧
    (∀ x : StreamId, (contextOf u x).warm = false ∧ (contextOf u x).location = .table ∧
      (contextOf u x).checkpoint = .none) ∧
    u.pst.records = [] ∧ u.pst.freePages = List.finRange 256 ∧
    u.lnk.queue = [] ∧ u.lnk.attempt = none ∧ u.lnk.state = .listening ∧ u.lnk.joinTimer = some (max s.now t + 216000000) ∧
    u.lnk.faultRecord = .none ∧ u.lnk.duplicateAt = none ∧ u.lnk.permanent = false ∧
    u.sub.table = [] ∧ u.sub.foregroundLoad = 0 ∧ u.sub.claims = [] ∧ u.sub.claimLoad = 0 ∧ u.sub.armed = true ∧
    (∀ p : Station, (u.sub.peers.get p).isPresent = false ∧ (u.sub.peers.get p).claims = [] ∧
      (u.sub.peers.get p).subs = [] ∧ (u.sub.peers.get p).aging = none) ∧
    u.dlv.cursors = [] ∧ u.dlv.releaseList = [] ∧
    u.mod.mode = .running ∧ u.mod.returnMode = none ∧ u.mod.statusTimer = some (max s.now t + 72000000) ∧
    u.mod.counters = { controlErrors := 0, lateParcels := 0, storeDrops := 0, queueDrops := 0, traceDrops := 0,
                       linkDrops := 0, slips := 0 }

/-- PIN_RESET_ASSERT stops every block at once (R175), and the held part takes nothing but the two events of RESET_N
(R174). That the held tracker reads SEARCH, that the counters read 0 and the straps are kept while held (log 50), and that
local time goes on (log 1), are the model's choices. -/
def Obligations.PinResetAssertHolds : Prop :=
  (∀ (s : State) (t : Instant), ∃ u, exec (.pinResetAssert t) s = .next u ∧ u.held = true ∧
    (∀ i : LaneId, (laneOf u i).state = .off) ∧ u.ftr.sync = .search ∧ u.ftr.frame = none ∧ u.ftr.marker = none ∧
    u.ftr.releases = [] ∧ u.ilm.fill = none ∧ u.jsc.jobs = [] ∧ (∀ e : EngineId, (engineOf u e).job = none) ∧
    u.pst.records = [] ∧ u.lnk.state = .offline ∧ u.lnk.queue = [] ∧ u.lnk.attempt = none ∧ u.lnk.joinTimer = none ∧
    u.lnk.recoveryTimer = none ∧ u.mod.statusTimer = none ∧ u.mod.straps = s.mod.straps ∧
    u.mod.counters = { controlErrors := 0, lateParcels := 0, storeDrops := 0, queueDrops := 0, traceDrops := 0,
                       linkDrops := 0, slips := 0 }) ∧
  (∀ (s : State) (c : Instr), s.held = true → isPinReset c = false → exec c s = .next (s.clocked c.instant))

/-! ### Front-end port (R1 to R6) -/

/-- EQUALISER_AUTO_ZERO, LOCK_REPORT, ACQUIRE_TIMEOUT and WORD_BOUNDARY_FOUND move a lane through its states (R3, R4,
R5), and change nothing but its record. That the re-entry to ACQUIRE of a lane not ALIGNED leaves the tracker unmoved, in
PROVISIONAL too, is the model's choice (log 67). -/
def Obligations.LaneAcquires : Prop :=
  ∀ (s : State) (t : Instant) (i : LaneId), Awake s →
    (∀ pol, (laneOf s i).state = .acquire → (laneOf s i).stage = .autoZero →
      due (s.clocked t) (laneOf s i).autoZeroEnd = true →
      exec (.equaliserAutoZero t i pol) s =
        .next (setLane (s.clocked t) i { laneOf s i with polarity := some pol, stage := .frequency, autoZeroEnd := none })) ∧
    ((laneOf s i).state = .acquire → (laneOf s i).stage = .frequency →
      exec (.lockReport t i) s =
        .next (setLane (s.clocked t) i { laneOf s i with
          state := .track, stage := .autoZero, autoZeroEnd := none, timeout := none, tune := .none, tuneWords := 0,
          corruptRun := 0 })) ∧
    ((laneOf s i).state = .acquire → due (s.clocked t) (laneOf s i).timeout = true →
      exec (.acquireTimeout t i) s =
        .next (setLane (s.clocked t) i { laneOf s i with
          state := .acquire, stage := .autoZero, autoZeroEnd := some (max s.now t + 250000),
          timeout := some (max s.now t + 2000000), tune := .none, tuneWords := 0, corruptRun := 0 })) ∧
    ((laneOf s i).state = .track →
      exec (.wordBoundaryFound t i) s =
        .next (setLane (s.clocked t) i { laneOf s i with state := .aligned, tune := .oneShot, tuneWords := 0, corruptRun := 0 }))

/-- IDLE, FRONT_END_STATUS, CORRUPT_CONTROL_WORD and ONE_SHOT_TUNE_END on an ALIGNED lane keep its record (R1, R5, R6);
a word on a lane in any other state has no effect (R1). The count of
words since ALIGNED, by which the one-shot tune ends, is the model's reading of R5 (log 30). -/
def Obligations.LaneWordsKeepLaneRecord : Prop :=
  (∀ (s : State) (t : Instant) (i : LaneId), Awake s → (laneOf s i).state = .aligned →
    exec (.idle t i) s =
      .next (setLane (s.clocked t) i { laneOf s i with
        tuneWords := min 256 ((laneOf s i).tuneWords + 1), corruptRun := 0 }) ∧
    (∀ present q, ¬(i = 0 ∧ present = false ∧ s.ftr.sync = .locked) →
      exec (.frontEndStatus t i present q) s =
        .next (setLane (s.clocked t) i { laneOf s i with
          tuneWords := min 256 ((laneOf s i).tuneWords + 1), corruptRun := 0, quality := q })) ∧
    ((laneOf s i).corruptRun < 3 →
      exec (.corruptControlWord t i) s =
        .next (setLane (s.clocked t) i { laneOf s i with
          tuneWords := min 256 ((laneOf s i).tuneWords + 1), corruptRun := (laneOf s i).corruptRun + 1 })) ∧
    ((laneOf s i).tune = .oneShot → (laneOf s i).tuneWords = 256 →
      exec (.oneShotTuneEnd t i) s = .next (setLane (s.clocked t) i { laneOf s i with tune := .continuous }))) ∧
  (∀ (s : State) (t : Instant) (i : LaneId), Awake s → (laneOf s i).state ≠ .aligned →
    exec (.idle t i) s = .next (s.clocked t) ∧ exec (.frameStartMarker t i) s = .next (s.clocked t) ∧
    exec (.corruptControlWord t i) s = .next (s.clocked t) ∧
    exec (.fourthCorruptControlWord t i) s = .next (s.clocked t) ∧
    (∀ present q, exec (.frontEndStatus t i present q) s = .next (s.clocked t)) ∧
    ∀ a w b, exec (.cellWord t i a w b) s = .next (s.clocked t))

/-- LOSS_OF_LOCK, FOURTH_CORRUPT_CONTROL_WORD and an ABSENT FRONT_END_STATUS on lane 0 in two-lane mode (R5, R12): in
LOCKED, with the payload of the frame in progress not yet over, reception ends, the flywheel count becomes 1 and the
frame waits to be filed ERASED at its frame start plus the payload offset; for a frame named in PROVISIONAL that counts
from its marker, and where that instant has passed it stands, the model's choices (logs 53, 71). In SEARCH, HOLDOVER and LOST the tracker is unmoved. -/
def Obligations.DepartureEndsReception : Prop :=
  ∀ (s : State) (t : Instant) (q : Byte), Awake s → s.mod.straps.singleLane = false → (laneOf s 0).state = .aligned →
    let acquiring := setLane (s.clocked t) 0 { laneOf s 0 with
      state := .acquire, stage := .autoZero, autoZeroEnd := some (max s.now t + 250000),
      timeout := some (max s.now t + 2000000), tune := .none, tuneWords := 0, corruptRun := 0 }
    let tracking := setLane (s.clocked t) 0 { laneOf s 0 with
      state := .track, stage := .autoZero, autoZeroEnd := none, timeout := none, tune := .none, tuneWords := 0,
      corruptRun := 0 }
    let reported := setLane (s.clocked t) 0 { laneOf s 0 with
      tuneWords := min 256 ((laneOf s 0).tuneWords + 1), corruptRun := 0, quality := q }
    (∀ f, s.ftr.sync = .locked → s.ftr.frame = some f → f.payloadEnded = false →
      let ended (x : State) : State := { x with
        ftr := { s.ftr with sync := .holdover, flywheel := 1,
                            frame := some { f with kind := .ended, fileAt := some (f.begun + s.ftr.payloadOffset) } },
        ilm := { s.ilm with fill := none } }
      exec (.lossOfLock t 0) s = .next (ended acquiring) ∧
      ((laneOf s 0).corruptRun = 3 → exec (.fourthCorruptControlWord t 0) s = .next (ended tracking)) ∧
      exec (.frontEndStatus t 0 false q) s = .next (ended reported)) ∧
    (s.ftr.sync = .search ∨ s.ftr.sync = .holdover ∨ s.ftr.sync = .lost →
      exec (.lossOfLock t 0) s = .next acquiring ∧
      ((laneOf s 0).corruptRun = 3 → exec (.fourthCorruptControlWord t 0) s = .next tracking))

/-! ### Frame time (R8 to R19, R45 to R49) -/

/-- CELL_WORD, payload before the 7,200th word: the word joins the fill area (R8, R46). -/
def Obligations.PayloadWordGathered : Prop :=
  ∀ (s : State) (t : Instant) (i : LaneId) (w : CellWord) (b : ControlBlock) (f : Frame) (ws : List CellWord),
    Awake s → (laneOf s i).state = .aligned → (s.mod.straps.singleLane = true ∨ i = 0) →
    s.ftr.frame = some f → isReceived f = true → f.payloadEnded = false → f.payloadWords < 7199 → s.ilm.fill = some ws →
    exec (.cellWord t i .payload w b) s =
      .next { setLane (s.clocked t) i { laneOf s i with tuneWords := min 256 ((laneOf s i).tuneWords + 1) } with
        ftr := { s.ftr with frame := some { f with payloadWords := f.payloadWords + 1 } },
        ilm := { s.ilm with fill := some (w :: ws) } }

/-- CELL_WORD, the 7,200th payload word of a named frame received from a marker: the payload end A(F). The frame is
filed RECEIVED in slot F mod 8 with its 7,200 words in order, the fill run and the whole mark follow R49, the payload
offset is measured, from the marker also for a frame named in PROVISIONAL (the model's choice, log 53), and R(F-7) is fixed
at A(F) + 72 ms (R8, R18, R19, R47, R49). Where the whole mark is set in RUNNING
or RESTARTING, each decode-set stream present in the usable applicable map of F-7 has its job, with the map's entry; an
unusable map has the deferral recorded, and no job is created (R32, R58). WAITING and READY jobs no longer in the slots
are gone (R62), a job waits only behind another of its stream (R61), and no READY job is left while an engine is IDLE
(R65). -/
def Obligations.PayloadEndFilesReceived : Prop :=
  ∀ (s : State) (t : Instant) (i : LaneId) (w : CellWord) (b : ControlBlock) (f : Frame) (ws : List CellWord),
    LastPayloadWord s i f ws →
    let g := s.ftr.count - 7
    let m := applicable s.maps g
    let creates := 7 ≤ s.ilm.fillRun ∧ (s.mod.mode = .running ∨ s.mod.mode = .restarting)
    ∃ u, exec (.cellWord t i .payload w b) s = .next u ∧
      u.ilm.slots.get (slotIndex s.ftr.count) =
        { tag := some s.ftr.count, received := true, whole := decide (7 ≤ s.ilm.fillRun), cells := ws.reverse ++ [w] } ∧
      (∀ n, n ≠ slotIndex s.ftr.count → u.ilm.slots.get n = s.ilm.slots.get n) ∧
      u.ilm.fill = none ∧ u.ilm.fillRun = min 8 (s.ilm.fillRun + 1) ∧
      u.ftr = { s.ftr with
        payloadOffset := max s.now t - f.begun,
        frame := some { f with payloadWords := 7200, payloadEnded := true, fileAt := none },
        releases := s.ftr.releases ++ [(s.ftr.count - 7, max s.now t + 72000000)] } ∧
      (s.ftr.count, max s.now t) ∈ u.jsc.arrivals ∧
      (creates → m.usable = true → s.jsc.jobs.length + (decodeSet s).length ≤ 32 →
        ∀ x cls e, (decodeSet s).find? (fun p => p.1 == x) = some (x, cls) → m.entryOf x = some e → jobOf s x g = none →
          ∃ j, jobOf u x g = some j ∧ j.cls = cls ∧ j.changeCount = m.count ∧ j.start = e.start ∧ j.grains = e.grains ∧
            j.profile = e.profile ∧ j.kind = e.kind ∧ j.speculative = nextApplies s.maps g ∧ j.discard = false ∧
            j.release = max s.now t + 72000000) ∧
      (¬creates ∨ m.usable = false → ∀ j ∈ u.jsc.jobs, ∃ k ∈ s.jsc.jobs, k.stream = j.stream ∧ k.frame = j.frame) ∧
      (creates → m.usable = false →
        if nextApplies s.maps g then u.maps.next.deferred = some (s.maps.next.deferred.getD g)
        else (∀ o, s.maps.outgoing = some o → earlierThan g o.changeFrame = false) →
          u.maps.current.deferred = some (s.maps.current.deferred.getD g)) ∧
      (¬creates → u.maps = s.maps) ∧
      (∀ j ∈ u.jsc.jobs, underWay j = false → stillInSlots u j.frame = true) ∧
      (∀ j ∈ u.jsc.jobs, j.state = .waiting → ∃ k ∈ u.jsc.jobs, k.stream = j.stream ∧ k.frame ≠ j.frame) ∧
      ((s.jsc.jobs.map (fun j => (j.stream, j.frame))).Nodup → s.mod.mode ≠ .draining → s.mod.mode ≠ .quiesced →
        (∃ e, (engineOf u e).job = none) → ∀ j ∈ u.jsc.jobs, j.state ≠ .ready) ∧
      Within [.time, .lanes, .tracker, .slots, .scheduler, .mapUnit, .arrivals] s u

/-- CELL_WORD, control area, of a frame received: a word that completes no block joins the block in progress; a block
that fails its check, or whose record is of no kind, counts as one control error and is discarded (R8, R20). The block comes
decoded, as an operand (log 6); which words form a block is read from R8 (log 13), and so is that a word after an early
control end joins none (log 68). In LOCKED a valid STREAM record goes to the current map where its tag is that map's count: an ASSEMBLING map takes it, unless it overlaps another stream's entry,
and is COMPLETE at its entry count (R28); a COMPLETE map is frozen (R29); one whose tag fits no map, one outside the limits
(R22) and one decoded in PROVISIONAL (R28) change no map. A FRAME record that confirms the local count opens a NONE current
map (R26) and a newly announced next map (R27), confirms a change-over (R35, R37), or backs it out (R35, R38), by which a
HELD checkpoint copy becomes its stream's context, at once or, with a job of it under way, as its decoding ends (R78). That the
test of R39 goes by the last frame start issued (log 17), and that a NONE map becomes an outgoing map too (log 42), is the
model's reading. -/
def Obligations.ControlWordsFormBlocks : Prop :=
  (∀ (s : State) (t : Instant) (i : LaneId) (w : CellWord) (b : ControlBlock) (f : Frame),
    Awake s → (laneOf s i).state = .aligned →
    (s.mod.straps.singleLane = true ∨ (i = 1 ∧ s.ftr.control.marked = true)) →
    s.ftr.frame = some f → isReceived f = true → s.ftr.control.pairing = .current → s.ftr.control.words < 383 →
    let counted := setLane (s.clocked t) i { laneOf s i with tuneWords := min 256 ((laneOf s i).tuneWords + 1) }
    (f.controlEnded = true →
      exec (.cellWord t i .control w b) s =
        .next { counted with ftr := { s.ftr with control := { s.ftr.control with
          words := s.ftr.control.words + 1,
          block := if (s.ftr.control.words + 1) % 48 = 0 then [] else s.ftr.control.block } } }) ∧
    (f.controlEnded = false → (s.ftr.control.words + 1) % 48 ≠ 0 →
      exec (.cellWord t i .control w b) s =
        .next { counted with ftr := { s.ftr with control := { s.ftr.control with
          words := s.ftr.control.words + 1, block := s.ftr.control.block ++ [w] } } }) ∧
    (f.controlEnded = false → (s.ftr.control.words + 1) % 48 = 0 → s.ftr.control.block.length = 47 → b = .badCheck ∨ b = .unknownKind →
      exec (.cellWord t i .control w b) s =
        .next (countControlError { counted with ftr := { s.ftr with control := { s.ftr.control with
          words := s.ftr.control.words + 1, block := [] } } }))) ∧
  (∀ (s : State) (t : Instant) (i : LaneId) (w : CellWord) (f : Frame) (tag : ChangeCount) (raw : RawEntry),
    CompletesBlock s i f →
    let c := Instr.cellWord t i .control w (.stream tag raw)
    let counted := blockCounted s t i
    let e := entryOfRaw raw true
    let m := s.maps.current
    (entryInLimits raw = false → exec c s = .next (countControlError counted)) ∧
    (entryInLimits raw = true → s.ftr.sync = .provisional → exec c s = .next counted) ∧
    (entryInLimits raw = true → s.ftr.sync = .locked →
      ((m.state = .none ∨ m.count ≠ tag) → (s.maps.next.state = .none ∨ s.maps.next.count ≠ tag) →
        exec c s = .next counted) ∧
      (m.state = .complete → m.count = tag →
        exec c s = .next (if (m.entryOf e.id).any (sameEntry · e) then counted
          else countControlError counted)) ∧
      (m.state = .assembling → m.count = tag → (∃ x ∈ m.entries, x.id ≠ e.id ∧ overlaps x e = true) →
        exec c s = .next (countControlError counted)) ∧
      (m.state = .assembling → m.count = tag → (∀ x ∈ m.entries, x.id ≠ e.id → overlaps x e = false) →
        ∃ u, exec c s = .next u ∧ u.maps.current.count = m.count ∧ u.maps.current.entryCount = m.entryCount ∧
          (∀ y, u.maps.current.entryOf y = if y = e.id then some e else m.entryOf y) ∧
          (if m.entryCount ≤ u.maps.current.entries.length
            then u.maps.current.state = .complete ∧ u.maps.current.source = .own
            else u.maps.current.state = .assembling) ∧
          Within [.time, .lanes, .tracker, .mapUnit, .scheduler, .store, .queue, .counters, .cursors, .table, .claims]
            s u))) ∧
  (∀ (s : State) (t : Instant) (i : LaneId) (w : CellWord) (f : Frame) (r : FrameRecord),
    CompletesBlock s i f → f.recordSeen = false → frameRecordValid r = true → s.ftr.sync = .locked →
    s.ftr.expected = some r.ensemble → r.count = s.ftr.count →
    let c := Instr.cellWord t i .control w (.frame r)
    let m := s.maps.current
    let n := s.maps.next
    let kept (u : State) : Prop := u.ftr = { (blockCounted s t i).ftr with frame := some { f with recordSeen := true } } ∧
      Within [.time, .lanes, .tracker, .mapUnit, .scheduler, .store, .queue, .counters, .cursors, .table, .claims] s u
    (m.state = .none → n.state = .none → r.pending = false →
      ∃ u, exec c s = .next u ∧ kept u ∧
        u.maps.current.state = (if r.entryCount = 0 then .complete else .assembling) ∧
        u.maps.current.count = r.changeCount ∧ u.maps.current.entryCount = r.entryCount ∧
        u.maps.current.source = .own ∧ u.maps.current.entries = [] ∧ u.maps.next.state = .none) ∧
    (m.state ≠ .none → r.changeCount = m.count → r.entryCount = m.entryCount → n.state = .none → r.pending = true →
      ∃ u, exec c s = .next u ∧ kept u ∧
        u.maps.next.state = (if r.nextEntryCount = 0 then .complete else .assembling) ∧
        u.maps.next.count = r.nextChangeCount ∧ u.maps.next.entryCount = r.nextEntryCount ∧
        u.maps.next.changeFrame = r.changeFrame ∧ u.maps.next.source = .own ∧ u.maps.next.entries = [] ∧
        u.maps.current.state = m.state ∧ u.maps.current.entries = m.entries) ∧
    (n.state ≠ .none → atOrAfter r.count n.changeFrame = true → r.changeCount = n.count → r.entryCount = n.entryCount →
      r.pending = false →
      ∃ u, exec c s = .next u ∧ kept u ∧
        u.maps.current.state = n.state ∧ u.maps.current.count = n.count ∧ u.maps.current.entryCount = n.entryCount ∧
        u.maps.current.source = n.source ∧ u.maps.current.entries = n.entries ∧ u.maps.next.state = .none ∧
        u.maps.marker = none ∧
        u.maps.outgoing = (if startIssued s (n.changeFrame + 15) then none
          else some { m with changeFrame := n.changeFrame, deferred := none }) ∧
        (∀ q ∈ u.pst.records, q.state ≠ .specHeld) ∧ ∀ j ∈ u.jsc.jobs, j.speculative = false) ∧
    (n.state ≠ .none → atOrAfter r.count n.changeFrame = true → r.changeCount ≠ n.count → m.state ≠ .none →
      r.changeCount = m.count → r.entryCount = m.entryCount → r.pending = false → s.maps.marker.isSome = true →
      ∃ u, exec c s = .next u ∧ kept u ∧
        u.maps.next.state = .none ∧ u.maps.marker = none ∧ u.maps.current.state = m.state ∧
        u.maps.current.entries = m.entries ∧ (∀ q ∈ u.pst.records, q.state ≠ .specHeld) ∧
        (∀ j ∈ u.jsc.jobs, j.speculative = true → j.discard = true) ∧
        ∀ mk x, s.maps.marker = some mk → x ∈ mk.streams →
          let under := ∃ j ∈ s.jsc.jobs, j.stream = x ∧ underWay j = true
          let v := contextOf u x
          (∀ k, (contextOf s x).checkpoint = .held k →
            (under → v.checkpoint = .restoring k false) ∧
            (¬under → v.checkpoint = .none ∧ v.next = k.next ∧ v.metrics = k.metrics ∧
              ((∀ j ∈ u.jsc.jobs, j.stream = x → underWay j = false) → v.warm = k.warm ∧ v.location = .table))) ∧
          ((contextOf s x).checkpoint = .pending → v.checkpoint = .none ∧ v.next = (contextOf s x).next ∧
            v.metrics = (contextOf s x).metrics)))

/-- CELL_WORD, the word that completes the first valid FRAME record of an unnamed frame in PROVISIONAL: where the
expected ensemble is UNSET or the record's, the tracker enters LOCKED with the record's count and id, the frame is
named, and the status timer stops (R10, R167). Once its control end has passed, the frame stays unnamed: whatever a word then
completes, the tracker is unmoved but for the count of words (R10; that such words are discarded, log 68). -/
def Obligations.FrameRecordLocks : Prop :=
  (∀ (s : State) (t : Instant) (i : LaneId) (w : CellWord) (f : Frame) (r : FrameRecord),
    Awake s → (laneOf s i).state = .aligned →
    (s.mod.straps.singleLane = true ∨ (i = 1 ∧ s.ftr.control.marked = true)) →
    s.ftr.sync = .provisional → s.ftr.frame = some f → isReceived f = true → f.controlEnded = false →
    f.recordSeen = false → s.ftr.control.pairing = .current → s.ftr.control.words < 383 → (s.ftr.control.words + 1) % 48 = 0 →
    s.ftr.control.block.length = 47 → frameRecordValid r = true →
    (s.ftr.expected = none ∨ s.ftr.expected = some r.ensemble) →
    ∃ u, exec (.cellWord t i .control w (.frame r)) s = .next u ∧
      u.ftr = { s.ftr with
        sync := .locked, count := r.count, expected := some r.ensemble, flywheel := 0, lastStart := some r.count,
        frame := some { f with named := true, recordSeen := true },
        control := { s.ftr.control with words := s.ftr.control.words + 1, block := [] } } ∧
      u.mod.statusTimer = none ∧
      Within [.time, .lanes, .tracker, .statusTimer, .scheduler, .mapUnit, .store, .queue, .counters, .cursors, .table,
        .claims] s u) ∧
  (∀ (s : State) (t : Instant) (i : LaneId) (w : CellWord) (b : ControlBlock) (f : Frame), Awake s →
    s.ftr.sync = .provisional ∨ s.ftr.sync = .locked → s.ftr.frame = some f → f.controlEnded = true →
    ∃ u, exec (.cellWord t i .control w b) s = .next u ∧ u.ftr = { s.ftr with control := u.ftr.control } ∧
      Within [.time, .lanes, .tracker] s u)

/-- A slip: a FRAME record of the expected ensemble with another count than the local one, decoded in LOCKED or in an open
trial frame. The tracker adopts the count and the work timed by the old one is abandoned (R13, R16, R54, R80, R113, R165);
the checkpoint marker becomes none and the outgoing map is released, the current and next maps standing (R25, R33, R39).
The CELL_WORD that completes that record brings it about; one that completes a record of the local count keeps or brings
LOCKED with flywheel count 0, and a foreign one fails the trial frame (R13, R15); that the flywheel count gains one with the
record, and not as the frame is filed, is the model's choice (log 45). -/
def Obligations.SlipAbandonsWork : Prop :=
  (∀ (s : State) (f : Frame) (r : FrameRecord), s.ftr.sync = .locked → s.ftr.expected = some r.ensemble →
    r.count ≠ s.ftr.count → trackRecord s f r = slip s r.count) ∧
  (∀ (s : State) (g : FrameCount), let u := slip s g
    u.ftr.sync = .locked ∧ u.ftr.count = g ∧ u.ftr.flywheel = 0 ∧ u.ftr.releases = [] ∧
    u.ftr.expected = s.ftr.expected ∧ u.ftr.marker = s.ftr.marker ∧
    u.mod.counters.slips = (if s.mod.counters.slips = 65535 then 65535 else s.mod.counters.slips + 1) ∧
    u.jsc.jobs = [] ∧ u.jsc.arrivals = [] ∧
    (∀ e : EngineId, (engineOf u e).job = none ∧ (engineOf u e).held = none) ∧
    (∀ x : StreamId, (contextOf u x).warm = false ∧ (contextOf u x).location = .table ∧
      (contextOf u x).checkpoint = .none) ∧
    u.pst.records = [] ∧
    (∀ n : Fin 8, (u.ilm.slots.get n).tag = (s.ilm.slots.get n).tag ∧ (u.ilm.slots.get n).received = false ∧
      (u.ilm.slots.get n).whole = false ∧ (u.ilm.slots.get n).cells = []) ∧
    u.ilm.fillRun = 0 ∧ u.ilm.fill = s.ilm.fill ∧
    u.maps.marker = none ∧ u.maps.outgoing = none ∧ u.maps.current = s.maps.current ∧ u.maps.next = s.maps.next ∧
    u.dlv.releaseList = [] ∧ (∀ e ∈ u.lnk.queue, e.kind ≠ .gap) ∧
    (∀ x, cursorFrame u x = cursorFrame s x) ∧
    Within [.slots, .scheduler, .arrivals, .store, .queue, .counters, .tracker, .mapUnit, .cursors, .releaseList] s u) ∧
  (∀ (s : State) (t : Instant) (i : LaneId) (w : CellWord) (f : Frame) (r : FrameRecord),
    CompletesBlock s i f → f.recordSeen = false → frameRecordValid r = true →
    (s.ftr.sync = .locked ∨ (s.ftr.sync = .holdover ∧ f.kind = .trial ∧ f.failed = false)) →
    let c := Instr.cellWord t i .control w (.frame r)
    let counted := blockCounted s t i
    (s.ftr.expected = some r.ensemble → r.count ≠ s.ftr.count →
      ∃ u, exec c s = .next u ∧
        u.ftr = { counted.ftr with sync := .locked, count := r.count, flywheel := 0, releases := [],
                                   frame := some { f with kind := .reception, recordSeen := true } } ∧
        u.mod.counters.slips = (if s.mod.counters.slips = 65535 then 65535 else s.mod.counters.slips + 1) ∧
        u.jsc.jobs = [] ∧ u.jsc.arrivals = [] ∧ u.pst.records = [] ∧ u.ilm.fillRun = 0 ∧
        (∀ n : Fin 8, (u.ilm.slots.get n).received = false ∧ (u.ilm.slots.get n).whole = false)) ∧
    (s.ftr.expected = some r.ensemble → r.count = s.ftr.count →
      ∃ u, exec c s = .next u ∧ u.ilm = s.ilm ∧
        u.ftr = (if s.ftr.sync = .locked then
            { counted.ftr with frame := some { f with recordSeen := true } }
          else { counted.ftr with sync := .locked, flywheel := 0,
                                  frame := some { f with kind := .reception, recordSeen := true } })) ∧
    (s.ftr.expected ≠ some r.ensemble → s.ftr.sync = .holdover →
      exec c s = .next { counted with ftr := { counted.ftr with
        frame := some { f with failed := true, recordSeen := true }, flywheel := min 42 (s.ftr.flywheel + 1) } }))

/-- FRAME_START_MARKER in SEARCH or LOST, on lane 0: PROVISIONAL, an unnamed frame in progress, marker timing the
arrival plus 72 ms, and the fill area opened (R9, R17, R46). On lane 1 it pairs the control words that follow with the
frame in progress where that began no more than 2 ms ago, otherwise with the next (R8). -/
def Obligations.MarkerEntersProvisional : Prop :=
  ∀ (s : State) (t : Instant), Awake s →
    ((laneOf s 0).state = .aligned → untimed s →
      (s.ftr.control.pairing ≠ .next ∨ s.ftr.control.held = []) →
      ∃ u, exec (.frameStartMarker t 0) s = .next u ∧
        u.ftr.sync = .provisional ∧ u.ftr.marker = some (max s.now t + 72000000) ∧
        u.ftr.frame = some { begun := max s.now t, named := false, kind := .reception, failed := false, payloadWords := 0,
                             payloadEnded := false, fileAt := none, controlEnded := false, recordSeen := false } ∧
        u.ftr.count = s.ftr.count ∧ u.ftr.expected = s.ftr.expected ∧ u.ftr.releases = s.ftr.releases ∧
        u.ftr.payloadOffset = s.ftr.payloadOffset ∧ u.ilm = { s.ilm with fill := some [] } ∧
        u.lanes = s.lanes.set 0 { laneOf s 0 with
          tuneWords := min 256 ((laneOf s 0).tuneWords + 1), corruptRun := 0 } ∧
        Within [.time, .lanes, .tracker, .slots] s u) ∧
    ((laneOf s 1).state = .aligned →
      exec (.frameStartMarker t 1) s =
        .next { setLane (s.clocked t) 1 { laneOf s 1 with
                  tuneWords := min 256 ((laneOf s 1).tuneWords + 1), corruptRun := 0 } with
          ftr := { s.ftr with control :=
            { pairing := match s.ftr.frame with
                | some f => if max s.now t ≤ f.begun + 2000000 then .current else .next
                | none => .next,
              marked := true, words := 0, block := [], held := [] } } })

/-- FRAME_START_MARKER in LOCKED (R11): inside the window the local count advances by one, a named frame begins at the
arrival, T becomes the arrival plus 72 ms and the fill area is opened (R46); outside the window the tracker disregards it. At
that frame start a JOINED station in RUNNING reviews its claims (R147, R148, R149). In HOLDOVER below flywheel count 42,
with no trial frame open, a trial frame begins so (R15), unless an event of R12 came after the last payload end: then the
next frame is ended as it begins, and waits to be filed ERASED at the payload offset. The event itself, here an ABSENT
FRONT_END_STATUS, brings HOLDOVER with flywheel count 1 (R12); that it acts when the next frame begins is the model's
reading (log 12). -/
def Obligations.MarkerInWindowBeginsFrame : Prop :=
  ∀ (s : State) (t : Instant) (m : Instant), Awake s → (laneOf s 0).state = .aligned → s.ftr.marker = some m →
    let lanes := s.lanes.set 0 { laneOf s 0 with
      tuneWords := min 256 ((laneOf s 0).tuneWords + 1), corruptRun := 0 }
    let begun (u : State) (kind : FrameKind) (fileAt : Option Instant) : Prop :=
      u.ftr.count = s.ftr.count + 1 ∧ u.ftr.marker = some (max s.now t + 72000000) ∧ u.ftr.nextEnded = false ∧
      u.ftr.frame = some { begun := max s.now t, named := true, kind := kind, failed := false, payloadWords := 0,
                           payloadEnded := false, fileAt := fileAt, controlEnded := false, recordSeen := false } ∧
      u.ftr.expected = s.ftr.expected ∧ u.ftr.payloadOffset = s.ftr.payloadOffset ∧ u.lanes = lanes ∧
      Within [.time, .lanes, .tracker, .slots, .scheduler, .arrivals, .mapUnit, .store, .queue, .counters, .cursors,
        .claims] s u
    (m ≤ max s.now t + 2000000 → max s.now t ≤ m + 2000000 →
      (s.ftr.control.pairing ≠ .next ∨ s.ftr.control.held = []) →
      (s.ftr.sync = .locked →
        ∃ u, exec (.frameStartMarker t 0) s = .next u ∧ u.ftr.sync = .locked ∧ begun u .reception none ∧
          u.ilm.fill = some [] ∧ (s.mod.mode = .running → s.lnk.state = .joined → ClaimsTaken s u)) ∧
      (s.ftr.sync = .holdover → s.ftr.flywheel < 42 → (∀ f, s.ftr.frame = some f → f.kind = .trial → f.failed = true) →
        ∃ u, exec (.frameStartMarker t 0) s = .next u ∧ u.ftr.sync = .holdover ∧ u.ftr.flywheel = s.ftr.flywheel ∧
          (if s.ftr.nextEnded = true then
            begun u .ended (some (max s.now t + s.ftr.payloadOffset)) ∧ (s.ilm.fill = none → u.ilm.fill = none)
          else begun u .trial none ∧ u.ilm.fill = some []) ∧
          (s.mod.mode = .running → s.lnk.state = .joined → ClaimsTaken s u))) ∧
    (s.ftr.sync = .locked → ¬(m ≤ max s.now t + 2000000 ∧ max s.now t ≤ m + 2000000) →
      exec (.frameStartMarker t 0) s =
        .next (setLane (s.clocked t) 0 { laneOf s 0 with
          tuneWords := min 256 ((laneOf s 0).tuneWords + 1), corruptRun := 0 })) ∧
    (∀ f q, s.ftr.sync = .locked → s.ftr.frame = some f → f.payloadEnded = true →
      exec (.frontEndStatus t 0 false q) s =
        .next { setLane (s.clocked t) 0 { laneOf s 0 with
                  tuneWords := min 256 ((laneOf s 0).tuneWords + 1), corruptRun := 0, quality := q } with
          ftr := { s.ftr with sync := .holdover, flywheel := 1, nextEnded := true } })

/-- MARKER_WINDOW_CLOSE, once T + 2 ms has come (R10, R11, R14): in LOCKED and, below flywheel count 42 with no trial
frame open, in HOLDOVER, the missed frame is named with the next count, begins at T + 2 ms, is to be filed at T plus
the payload offset, and T advances by 72 ms; the flywheel count gains one, but for a frame that an event of R12 has counted
(the model's reading, log 12). In PROVISIONAL the tracker returns to SEARCH. -/
def Obligations.WindowClosesIntoHoldover : Prop :=
  ∀ (s : State) (t : Instant) (m : Instant), Awake s → s.ftr.marker = some m → m + 2000000 ≤ max s.now t →
    (s.ftr.sync = .locked ∨ (s.ftr.sync = .holdover ∧ s.ftr.flywheel < 42 ∧
        ∀ f, s.ftr.frame = some f → f.kind = .trial → f.failed = true) →
      ∃ u, exec (.markerWindowClose t) s = .next u ∧
        u.ftr.sync = .holdover ∧ u.ftr.count = s.ftr.count + 1 ∧
        u.ftr.flywheel = (if s.ftr.sync = .locked then 1 else if s.ftr.nextEnded then s.ftr.flywheel
          else s.ftr.flywheel + 1) ∧ u.ftr.marker = some (m + 72000000) ∧
        u.ftr.nextEnded = false ∧
        u.ftr.frame = some { begun := m + 2000000, named := true, kind := .flywheel, failed := false, payloadWords := 0,
                             payloadEnded := false, fileAt := some (m + s.ftr.payloadOffset), controlEnded := false,
                             recordSeen := false } ∧
        u.ftr.payloadOffset = s.ftr.payloadOffset ∧
        Within [.time, .tracker, .slots, .scheduler, .arrivals, .mapUnit, .store, .queue, .counters, .cursors, .claims] s u) ∧
    (s.ftr.sync = .provisional →
      ∃ u, exec (.markerWindowClose t) s = .next u ∧ u.ftr.sync = .search ∧ u.ftr.frame = none ∧ u.ftr.marker = none ∧
        u.ftr.count = s.ftr.count ∧ u.ftr.expected = s.ftr.expected ∧ u.ilm = { s.ilm with fill := none } ∧
        Within [.time, .tracker, .slots] s u)

/-- FLYWHEEL_PAYLOAD_END at the filing instant of a flywheel frame, or of a frame ended by R12: the frame is filed
ERASED, its arrival recorded, and its release instant fixed (R12, R14, R18, R19, R48, R49, R57). Where the command comes
later than the filing instant, that A(F) and R(F-7) go by the command's instant is the model's choice (log 2). -/
def Obligations.FlywheelFrameFiledErased : Prop :=
  ∀ (s : State) (t a : Instant) (f : Frame), Awake s → s.ftr.frame = some f → f.named = true →
    (f.kind = .flywheel ∨ f.kind = .ended) → f.payloadEnded = false → f.fileAt = some a → a ≤ max s.now t →
    ∃ u, exec (.flywheelPayloadEnd t) s = .next u ∧
      u.ilm.slots.get (slotIndex s.ftr.count) =
        { tag := some s.ftr.count, received := false, whole := decide (7 ≤ s.ilm.fillRun), cells := [] } ∧
      (∀ n, n ≠ slotIndex s.ftr.count → u.ilm.slots.get n = s.ilm.slots.get n) ∧
      u.ilm.fill = none ∧ u.ilm.fillRun = min 8 (s.ilm.fillRun + 1) ∧
      u.ftr = { s.ftr with
        frame := some { f with payloadEnded := true, fileAt := none },
        releases := s.ftr.releases ++ [(s.ftr.count - 7, max s.now t + 72000000)] } ∧
      (s.ftr.count, max s.now t) ∈ u.jsc.arrivals ∧
      Within [.time, .tracker, .slots, .scheduler, .mapUnit, .arrivals] s u

/-- ENTRY_TO_LOST at flywheel count 42, once T - 2 ms has come: no frame time, every slot EMPTY, the arrival record
emptied, release instants cancelled, no claims, the outgoing map released and the status timer started (R17, R39, R55, R57,
R147, R154, R167). That the entry comes at once where a trial frame brings the count to 42 later than T - 2 ms is the model's
reading (log 14). -/
def Obligations.EntryToLostClears : Prop :=
  ∀ (s : State) (t m : Instant), Awake s → s.ftr.sync = .holdover → s.ftr.flywheel = 42 → s.ftr.marker = some m →
    m ≤ max s.now t + 2000000 →
    ∃ u, exec (.entryToLost t) s = .next u ∧
      u.ftr.sync = .lost ∧ u.ftr.frame = none ∧ u.ftr.marker = none ∧ u.ftr.releases = [] ∧
      u.ftr.count = s.ftr.count ∧ u.ftr.expected = s.ftr.expected ∧
      (∀ n : Fin 8, (u.ilm.slots.get n).tag = none ∧ (u.ilm.slots.get n).received = false ∧
        (u.ilm.slots.get n).whole = false ∧ (u.ilm.slots.get n).cells = []) ∧
      u.ilm.fill = none ∧ u.ilm.fillRun = 0 ∧ u.jsc.arrivals = [] ∧ u.dlv.releaseList = [] ∧
      u.maps = { s.maps with outgoing := none } ∧ u.sub.claims = [] ∧ u.sub.claimLoad = 0 ∧
      u.mod.statusTimer = some (max s.now t + 72000000) ∧
      Within [.time, .tracker, .slots, .mapUnit, .arrivals, .releaseList, .claims, .statusTimer] s u

/-- RELEASE_INSTANT, of the first pending release instant once it has come: it leaves the pending set, joins the release
list, which keeps 16, and turns the ARMED deadline of every cursor set to its frame into RUNNING at R(F) + 60 ms (R19,
R154, R161). -/
def Obligations.ReleaseInstantIssued : Prop :=
  ∀ (s : State) (t : Instant) (f : FrameCount) (r : Instant) (rest : List (FrameCount × Instant)), Awake s →
    s.ftr.releases = (f, r) :: rest → r ≤ max s.now t →
    exec (.releaseInstant t f) s =
      .next { s.clocked t with
        ftr := { s.ftr with releases := rest },
        dlv := { releaseList := (s.dlv.releaseList ++ [(f, r)]).drop (s.dlv.releaseList.length + 1 - 16),
                 cursors := s.dlv.cursors.map (fun c =>
                   if c.cursor = some f ∧ c.deadline = .armed then { c with deadline := .running (r + 60000000) } else c) } }

/-! ### Engines (R50 to R52, R68 to R73) -/

/-- A span read (R50, R51, R52): it has N = grains × 96 cells, and cell i, of delay d = (5 × (i mod 8)) mod 8, is the
stored cell at payload position start × 96 + i of slot (F + d) mod 8 where that slot is tagged F + d and RECEIVED, and
an erasure otherwise. -/
def Obligations.SpanReadServesDelays : Prop :=
  ∀ (s : State) (f : FrameCount) (start grains : Nat),
    (spanRead s f start grains).length = grains * 96 ∧
    ∀ i, i < grains * 96 →
      let g : FrameCount := f + BitVec.ofNat 12 (5 * (i % 8) % 8)
      let slot := s.ilm.slots.get (Fin.ofNat 8 g.toNat)
      (slot.tag = some g → slot.received = true → slot.cells.length = 7200 → start + grains ≤ 600 →
        ∃ w, slot.cells[(start * 96 + i) / 8]? = some w ∧
          (spanRead s f start grains)[i]? = some (w.extractLsb' (28 - 4 * ((start * 96 + i) % 8)) 4)) ∧
      (slot.tag ≠ some g ∨ slot.received = false → (spanRead s f start grains)[i]? = some (8 : Cell))

/-- CONTEXT_MOVE_COMPLETE, a load that has come to its end: the engine holds the stream's context, clean, and decodes
for grains × 0.45 ms from the span as it reads now (R68, R70). Where the job is speculative and the stream's checkpoint
entry is PENDING, the entry becomes HELD with the context's next frame, metrics and validity; any other entry stands
(R75). -/
def Obligations.LoadedContextBeginsDecoding : Prop :=
  ∀ (s : State) (t till : Instant) (e : EngineId) (j : Job), Awake s → engineJob s e = some j →
    (engineOf s e).phase = .loading till → till ≤ max s.now t → (engineOf s e).dropAtEnd = false →
    let c := contextOf s j.stream
    ∃ u, exec (.contextMoveComplete t e) s = .next u ∧
      engineOf u e = { engineOf s e with
        held := some j.stream, dirty := false, phase := .decoding (max s.now t + j.grains * 450000),
        span := spanRead s j.frame j.start j.grains } ∧
      (∀ d, d ≠ e → engineOf u d = engineOf s d) ∧
      contextOf u j.stream = { c with location := .engine e, checkpoint :=
        if j.speculative = true ∧ c.checkpoint = .pending then .held { next := c.next, metrics := c.metrics, warm := c.warm }
        else c.checkpoint } ∧
      (∀ x, x ≠ j.stream → contextOf u x = contextOf s x) ∧ u.jsc.jobs = s.jsc.jobs ∧ Within [.time, .scheduler] s u

/-- DECODE_END of a job that is not late (R70, R72, R102): the job leaves the table and its stream's context expects the
next frame. A usable copy that is not speculative, whose offer instant R(F) + (1023 - score) × 50 µs is still to come,
makes a WAITING record on pages from the head of the free-page list, where there is room for it, and those pages, which
leave the list, are written with the parcel, and no others (R99). A job with the discard mark, of a stream that is not
traced, outside QUIESCING, is dropped as late: late_parcels gains one, and the store and the transmit queue are as they
were (R73). Where its stream is RESTORING, the engine's advanced context is dropped and the next frame and metrics are the
copy's; where no other job of the stream is in the table, so is the validity, the location is TABLE and the entry is NONE, or
PENDING where a request was opened meanwhile (R75, R78). That this holds after a RESUME too is the model's choice (log 63). -/
def Obligations.DecodeEndStoresOrDrops : Prop :=
  (∀ (s : State) (t till : Instant) (e : EngineId) (j : Job) (found : Decoded), Awake s → engineJob s e = some j →
    (engineOf s e).phase = .decoding till → till ≤ max s.now t → (engineOf s e).dropAtEnd = false →
    (contextOf s j.stream).checkpoint = .none → s.mod.mode = .running → j.speculative = false → j.putOff = false →
    isLate s j = false → recordOf s j.stream j.frame = none → s.pst.records.length < 48 →
    (isTraced s j.stream = false ∨ s.lnk.queue.length < 24) →
    let o := outcomeOf j (engineOf s e).span found (max s.now t)
    pagesFor o.parcel.length ≤ s.pst.freePages.length → unusableCopy o.pass o.saturated = false →
    max s.now t < j.release + (1023 - o.score) * 50000 →
    ∃ u r, exec (.decodeEnd t e found) s = .next u ∧ recordOf u j.stream j.frame = some r ∧
      r.state = .waiting ∧ r.offerAt = some (j.release + (1023 - o.score) * 50000) ∧ r.discardAt = none ∧
      r.score = o.score ∧ r.pass = o.pass ∧ r.erased = o.erased ∧ r.saturated = o.saturated ∧ r.cold = o.cold ∧
      r.markers = o.markers ∧ r.payloadLength = o.payloadLength ∧ r.release = j.release ∧
      r.pages = s.pst.freePages.take (pagesFor o.parcel.length) ∧
      u.pst.freePages = s.pst.freePages.drop (pagesFor o.parcel.length) ∧
      u.pst.pageMem = writePages s.pst.pageMem (s.pst.freePages.take (pagesFor o.parcel.length)) o.parcel ∧
      jobOf u j.stream j.frame = none ∧ (contextOf u j.stream).next = j.frame + 1 ∧
      Within [.time, .scheduler, .store, .pageMem, .queue, .counters, .mapUnit] s u) ∧
  (∀ (s : State) (t till : Instant) (e : EngineId) (j : Job) (found : Decoded), Awake s → engineJob s e = some j →
    (engineOf s e).phase = .decoding till → till ≤ max s.now t → s.mod.mode ≠ .quiescing → j.discard = true →
    j.putOff = false → isTraced s j.stream = false →
    ∃ u, exec (.decodeEnd t e found) s = .next u ∧
      u.mod.counters = { s.mod.counters with
        lateParcels := if s.mod.counters.lateParcels = 65535 then 65535 else s.mod.counters.lateParcels + 1 } ∧
      jobOf u j.stream j.frame = none ∧
      (∀ k reopened, (contextOf s j.stream).checkpoint = .restoring k reopened →
        (contextOf u j.stream).next = k.next ∧ (contextOf u j.stream).metrics = k.metrics ∧
        ((∀ o ∈ s.jsc.jobs, o.stream = j.stream → o.frame = j.frame) →
          contextOf u j.stream = { next := k.next, metrics := k.metrics, warm := k.warm, location := .table,
                                   checkpoint := if reopened then .pending else .none } ∧
          (engineOf u e).held ≠ some j.stream)) ∧
      Within [.time, .scheduler, .counters] s u)

/-- The score, the flags and usability of an outcome, from N, e and d (R88, R89, R90): with u = N - e = 0 the score is
0, the check FAIL and ERASED and SATURATED are set; otherwise raw = 1023 - floor(r / 4) - floor(f / 8), a PASS copy
scores raw raised to 256, a FAIL copy floor(raw / 4) or 0. A FAIL copy that is not SATURATED scores at least 64.
The decoded code bits are an operand (log 5), fitted to the span (log 28). -/
def Obligations.ScoreFollowsCounts : Prop :=
  ∀ (j : Job) (span : List Cell) (found : Decoded) (now : Instant), 0 < span.length →
    let o := outcomeOf j span found now
    let n := span.length
    let e := span.countP (fun c => c == (8 : Cell))
    let u := n - e
    o.cells = n ∧ o.erasures = e ∧ e ≤ n ∧ o.disagreements ≤ u ∧
    (0 < u → o.disagreements * 4096 / u ≤ 4096 ∧ e * 4096 / n ≤ 4095) ∧
    (o.erased = true ↔ 0 < e) ∧ (o.saturated = true ↔ u ≤ 4 * o.disagreements) ∧ (o.cold = true ↔ j.source = .cold) ∧
    (u = 0 → o.score = 0 ∧ o.pass = false ∧ o.erased = true ∧ o.saturated = true) ∧
    (0 < u →
      let raw : Int := 1023 - ((o.disagreements * 4096 / u / 4 : Nat) : Int) - ((e * 4096 / n / 8 : Nat) : Int)
      (-512 : Int) ≤ raw ∧ raw ≤ 1023 ∧
      (o.pass = true → (o.score : Int) = max raw 256) ∧
      (o.pass = false → 0 ≤ raw → (o.score : Int) = raw / 4) ∧ (o.pass = false → raw < 0 → o.score = 0)) ∧
    (o.pass = true → 256 ≤ o.score ∧ o.score ≤ 1023) ∧ (o.pass = false → o.score ≤ 255) ∧
    (o.pass = false → o.saturated = false → 64 ≤ o.score)

/-- A unit walk with a known carry-in (R94, R95, R96): at or past the payload length it lists nothing and carries the rest
out; with fewer than 3 bytes left it ends with carry-out 0; a bad header breaks the chain, with RESYNC and carry-out
UNKNOWN; a good header at the carry-in is listed, and the walk ends there with the unit's rest, or goes on as the walk from
the unit's end does, listing at most 32 offsets. UNIT_OVERFLOW is set at a 33rd unit, and where the chain breaks after the
32nd, also where no 33rd was accepted (the model's reading, log 51). So the listed offsets rise from the carry-in by their total lengths, and the carry-out is UNKNOWN exactly
where RESYNC is set. -/
def Obligations.UnitWalkFollowsHeaders : Prop :=
  ∀ (payload : List Byte) (k : Nat),
    let p := payload.length
    let w := walkKnown payload k
    let l := headerLength payload k
    let good := payload[k]? = some 0x5C ∧ 4 ≤ l
    (p ≤ k → w = { units := [], carryOut := some (k - p), resync := false, overflow := false }) ∧
    (k < p → p - k < 3 → w = { units := [], carryOut := some 0, resync := false, overflow := false }) ∧
    (k + 3 ≤ p → ¬good → w = { units := [], carryOut := none, resync := true, overflow := false }) ∧
    (k + 3 ≤ p → good → p ≤ k + l →
      w = { units := [k], carryOut := some (k + l - p), resync := false, overflow := false }) ∧
    (k + 3 ≤ p → good → k + l < p →
      let v := walkKnown payload (k + l)
      w.units = (k :: v.units).take 32 ∧ w.carryOut = v.carryOut ∧ w.resync = v.resync ∧
      (w.overflow = true ↔ v.units.length = 32 ∨ (v.resync = true ∧ v.units.length = 31))) ∧
    (k < p →
      w.units.length ≤ 32 ∧ (w.resync = true ↔ w.carryOut = none) ∧ (w.overflow = true → w.units.length = 32) ∧
      (∀ o ∈ w.units, k ≤ o ∧ o + 3 ≤ payload.length ∧ payload[o]? = some 0x5C ∧ 4 ≤ headerLength payload o) ∧
      (∀ o, w.units.head? = some o → o = k) ∧
      (∀ i a b, w.units[i]? = some a → w.units[i + 1]? = some b → b = a + headerLength payload a))

/-! ### Parcel store and delivery (R99 to R113, R153 to R165) -/

/-- What is written to the pages of a copy is what they hold, byte for byte, and no byte of any other page changes
(R99). -/
def Obligations.PagesHoldTheParcel : Prop :=
  ∀ (m : Memory) (pages : List (Fin 256)) (bytes : List Byte), pages.Nodup → bytes.length ≤ 256 * pages.length →
    readPages (writePages m pages bytes) pages bytes.length = bytes ∧
    ∀ (p : Fin 256) (i : Nat), p ∉ pages → i < 256 →
      readByte (writePages m pages bytes) (p.val * 256 + i) = readByte m (p.val * 256 + i)

/-- Freeing a record is one act with four parts (R101). -/
def Obligations.FreeingARecordIsOneAct : Prop :=
  ∀ (s : State) (x : StreamId) (f : FrameCount) (r : ParcelRecord), recordOf s x f = some r →
    let u := freeRecord s x f
    recordOf u x f = none ∧ u.pst.records = s.pst.records.filter (fun q => !(q.stream == x && q.frame == f)) ∧
    u.pst.freePages = s.pst.freePages ++ r.pages ∧
    u.lnk.queue = (if r.state = .queued
      then s.lnk.queue.filter (fun e => !(e.kind == .parcel && e.stream == some x && e.frame == some f))
      else s.lnk.queue) ∧
    u.lnk.attempt = s.lnk.attempt ∧ Within [.store, .queue] s u

/-- OFFER_INSTANT of a WAITING record (R103, R157): with the stream's cursor UNSET or at the record's frame and room in
the queue, the record becomes QUEUED and a PARCEL of class 4 and rank 1023 - score is queued; with the cursor at another
frame the record becomes HELD; in either case it is otherwise as it was, its offer instant kept (R100). DISCARD_INSTANT: an unusable HELD record whose discard instant has come is freed (R107, R101). -/
def Obligations.OfferAndDiscardInstants : Prop :=
  (∀ (s : State) (t d : Instant) (x : StreamId) (f : FrameCount) (r : ParcelRecord) (c : Cursor), Awake s →
    recordOf s x f = some r → r.state = .waiting → r.offerAt = some d → d ≤ max s.now t → cursorOf s x = some c →
    ((c.cursor = none ∨ c.cursor = some f) → RoomFor s .parcel (some x) (some f) →
      ∃ u, exec (.offerInstant t x f) s = .next u ∧
        recordOf u x f = some { r with state := .queued } ∧
        (∃ e ∈ u.lnk.queue, e.kind = .parcel ∧ e.stream = some x ∧ e.frame = some f ∧ e.attempts = 0 ∧
          e.arb = ownField s 4 (1023 - r.score)) ∧
        u.lnk.queue.length = s.lnk.queue.length + 1 ∧ u.pst.freePages = s.pst.freePages ∧
        Within [.time, .store, .queue] s u) ∧
    (∀ g, c.cursor = some g → g ≠ f →
      ∃ u, exec (.offerInstant t x f) s = .next u ∧
        recordOf u x f = some { r with state := .held } ∧ u.pst.freePages = s.pst.freePages ∧
        Within [.time, .store] s u)) ∧
  (∀ (s : State) (t d : Instant) (x : StreamId) (f : FrameCount) (r : ParcelRecord), Awake s →
    recordOf s x f = some r → r.state = .held → r.discardAt = some d → d ≤ max s.now t →
    exec (.discardInstant t x f) s =
      .next { s.clocked t with pst := { s.pst with
        records := s.pst.records.filter (fun q => !(q.stream == x && q.frame == f)),
        freePages := s.pst.freePages ++ r.pages } })

/-- DEADLINE, of a set cursor whose deadline has come (R162): it becomes LAPSED in every case. In QUIESCING and QUIESCED,
and where an own PARCEL of the frame is queued, nothing else happens. Elsewhere, with room in the queue, a GAP of class 5
and rank 0 is queued: of reason UNUSABLE for an unusable HELD record, which is freed; LATE for a job of the frame or a
SPEC_HELD record; NOT_DECODED otherwise. -/
def Obligations.DeadlineAnswered : Prop :=
  ∀ (s : State) (t d : Instant) (x : StreamId) (f : FrameCount) (c : Cursor), Awake s → cursorOf s x = some c →
    c.cursor = some f → c.deadline = .running d → d ≤ max s.now t →
    let held : Prop := ∃ r, recordOf s x f = some r ∧ r.state = .held ∧ usableRecord r = false
    let late : Prop := (jobOf s x f).isSome = true ∨ ∃ r, recordOf s x f = some r ∧ r.state = .specHeld
    let answered (reason : GapReason) (u : State) : Prop := exec (.deadline t x) s = .next u ∧
      cursorOf u x = some { c with deadline := .lapsed } ∧
      (∃ e ∈ u.lnk.queue, e.kind = .gap ∧ e.stream = some x ∧ e.frame = some f ∧ e.body = .gap reason ∧
        e.arb = ownField s 5 0) ∧
      u.lnk.queue.length = s.lnk.queue.length + 1
    (∃ u, exec (.deadline t x) s = .next u ∧ cursorOf u x = some { c with deadline := .lapsed }) ∧
    ((s.mod.mode = .quiescing ∨ s.mod.mode = .quiesced ∨ queued s .parcel (some x) (some f) = true) →
      exec (.deadline t x) s =
        .next { s.clocked t with dlv := { s.dlv with
          cursors := s.dlv.cursors.map (fun k => if k.stream = x then { k with deadline := .lapsed } else k) } }) ∧
    (s.mod.mode ≠ .quiescing → s.mod.mode ≠ .quiesced → queued s .parcel (some x) (some f) = false →
      RoomFor s .gap (some x) (some f) →
      (held → ∃ u, answered .unusable u ∧ recordOf u x f = none ∧ Within [.time, .queue, .cursors, .store] s u) ∧
      (¬held → late → ∃ u, answered .late u ∧ Within [.time, .queue, .cursors] s u) ∧
      (¬held → ¬late → ∃ u, answered .notDecoded u ∧ Within [.time, .queue, .cursors] s u))

/-- A PARCEL or GAP that completes for a stream-frame, heard or this station's own (R131, R158): its PARCEL and GAP
entries leave the queue, the own record is freed, and the stream's cursor, where it stands at the frame, or is UNSET with
the absence mark clear, is set to the next frame with the PARCEL's carry-out, or UNKNOWN after a GAP. That
a message of this station completes either at ATTEMPT_END or as its message command is the model's choice (log 9). -/
def Obligations.CompletedCopyResolvesFrame : Prop :=
  ∀ (s : State) (t : Instant) (x : StreamId) (f : FrameCount) (k : Option Nat) (c : Instr), Awake s →
    ((∃ m, c = .parcel t (.heard m) ∧ Heard s .parcel m ∧ streamOfByte m.header.stream = x ∧
        frameOfField m.header.frame = f ∧ carryOfField (word16 m.body 8) = k) ∨
     (∃ m, c = .gap t (.heard m) ∧ Heard s .gap m ∧ streamOfByte m.header.stream = x ∧
        frameOfField m.header.frame = f ∧ k = none) ∨
     (∃ a, s.lnk.attempt = some a ∧ a.kind = .parcel ∧ a.stream = some x ∧ a.frame = some f ∧ a.carryOut = k ∧
        (c = .attemptEnd t false ∨ c = .parcel t .own)) ∨
     (∃ a, s.lnk.attempt = some a ∧ a.kind = .gap ∧ a.stream = some x ∧ a.frame = some f ∧ k = none ∧
        (c = .attemptEnd t false ∨ c = .gap t .own))) →
    ∃ u, exec c s = .next u ∧
      (∀ e ∈ u.lnk.queue, (e.kind = .parcel ∨ e.kind = .gap) → ¬(e.stream = some x ∧ e.frame = some f)) ∧
      recordOf u x f = none ∧
      (∀ y, y ≠ x → cursorOf u y = cursorOf s y) ∧
      (∀ z, cursorOf s x = some z →
        if z.cursor = some f ∨ (z.cursor = none ∧ z.absent = false) then
          cursorFrame u x = some (f + 1) ∧ (∀ y, cursorOf u x = some y → y.carryIn = k)
        else cursorOf u x = some z) ∧
      (cursorOf s x = none → cursorOf u x = none) ∧
      Within [.time, .line, .store, .queue, .counters, .mapUnit, .cursors] s u

/-! ### Reports (R41, R167) -/

/-- STATUS_TIMER at its expiry: it restarts at 72 ms; in RUNNING, with room in the queue, a STATUS of class 2 and rank 0
is queued; in RESTARTING and QUIESCED nothing is (R167). -/
def Obligations.StatusTimerOffersStatus : Prop :=
  ∀ (s : State) (t d : Instant), Awake s → s.mod.statusTimer = some d → d ≤ max s.now t →
    (s.mod.mode = .running → RoomFor s .status none none →
      ∃ u, exec (.statusTimer t) s = .next u ∧ u.mod.statusTimer = some (max s.now t + 72000000) ∧
        (∃ e ∈ u.lnk.queue, e.kind = .status ∧ e.stream = none ∧ e.frame = none ∧ e.attempts = 0 ∧
          e.arb = ownField s 2 0) ∧
        u.lnk.queue.length = s.lnk.queue.length + 1 ∧ Within [.time, .queue, .statusTimer] s u) ∧
    (s.mod.mode = .restarting ∨ s.mod.mode = .quiesced →
      exec (.statusTimer t) s =
        .next { s.clocked t with mod := { s.mod with statusTimer := some (max s.now t + 72000000) } })

/-- NOTICE_HOLD_OFF at its expiry (R41): with no notice-wanted mark set the hold-off ends and nothing is queued; with the
current map's mark set in RUNNING or QUIESCING, JOINED, no MAP queued and room, its notice is queued at class 3 and rank
16 - entry count, the mark is cleared and the hold-off restarts at 4 frame periods. -/
def Obligations.NoticeHoldOffQueuesMap : Prop :=
  ∀ (s : State) (t d : Instant), Awake s → s.maps.holdOff = some d → d ≤ max s.now t →
    (s.maps.wantCurrent = false → s.maps.wantNext = false →
      exec (.noticeHoldOff t) s = .next { s.clocked t with maps := { s.maps with holdOff := none } }) ∧
    (s.maps.wantCurrent = true → s.mod.mode = .running ∨ s.mod.mode = .quiescing → s.lnk.state = .joined →
      RoomFor s .map none none →
      ∃ u, exec (.noticeHoldOff t) s = .next u ∧
        u.maps = { s.maps with wantCurrent := false, holdOff := some (max s.now t + 288000000) } ∧
        (∃ e ∈ u.lnk.queue, e.kind = .map ∧ e.arb = ownField s 3 (16 - s.maps.current.entryCount) ∧
          e.body = .map { isNext := false, count := s.maps.current.count, entryCount := s.maps.current.entryCount,
                          changeFrame := none, entries := s.maps.current.entries.map rawOfEntry }) ∧
        u.lnk.queue.length = s.lnk.queue.length + 1 ∧ Within [.time, .queue, .mapUnit] s u)

/-! ### Ensemble link (R114 to R134) -/

/-- What a sender puts on the line is what a receiver reads off it: for every arbitration field, kind code, header and
body of at most 6,073 bytes whose length the header gives, the stuffed bits with the check word, the flag lead and the
end flag are judged sound and read back as they were (R114, R115, R118); and a good lane word is read back from its 36
bits (R135). -/
def Obligations.WireFormatsReadBack : Prop :=
  (∀ (arb : ArbField) (code : Byte) (h : Header) (body : List Byte), body.length = h.bodyLength.toNat →
    body.length ≤ 6073 →
    judge (wireBits arb (headerBytes code h) body) = some { arb := arb, code := code, header := h, body := body }) ∧
  (∀ w : LaneWord, w ≠ .corrupt → ∃ bits, encodeLaneWord w = some bits ∧ classifyLaneWord bits = w)

/-- Arbitration bit by bit, each sender dropping out at the first bit where it sends recessive and reads dominant, leaves
sending those of lowest field alone; and an entry's field is class × 8192 + rank × 8 + station, with the class of its
kind (R116, R117). -/
def Obligations.LowestFieldWinsArbitration : Prop :=
  (∀ (own : ArbField) (rivals : List ArbField), winsArbitration own rivals = true ↔ ∀ r ∈ rivals, own ≤ r) ∧
  (∀ (s : State) (k : MsgKind) (x : Option StreamId) (f : Option FrameCount) (rank : Nat) (b : EntryBody), rank ≤ 1023 →
    (newEntry s k x f rank b).arb.toNat =
      (match k with
        | .ensembleChange | .restart | .quiesce | .resume | .drained | .quiesced => 0
        | .subscribe | .release => 1
        | .status => 2
        | .map => 3
        | .parcel => 4
        | .gap => 5
        | .trace => 6) * 8192 + rank * 8 + s.mod.straps.station.val)

/-- CONTENTION (R117, R119, R121): a JOINED station contends with the head of its queue. Where no rival's field is lower
it wins from this instant, and the message taken carries the attempt number one more than the count, and the station,
mode, sync state and fault record as they stand, the entry's stream and frame or the codes for none, and the body as the
entry's owner now gives it: for a PARCEL the record's fields, the walk's results, the unit offsets where the stream is UNIT
and a subscription has the units option, and the payload off the record's pages (R98, R134). That OFFSETS is then set for an
empty unit list too is the model's choice (log 58). Where a rival's field is lower the station loses, and its queue is as it
was; a station not JOINED, or with nothing queued, does not contend. -/
def Obligations.ContentionTakesHead : Prop :=
  ∀ (s : State) (t : Instant) (rivals : List ArbField), Awake s →
    (∀ e q, s.lnk.state = .joined → s.lnk.attempt = none → s.lnk.queue = e :: q → (∀ r ∈ rivals, e.arb ≤ r) →
      ∃ a, exec (.contention t rivals) s =
          .next { s.clocked t with lnk := { s.lnk with attempt := some a, queue := { e with rewritten := false } :: q } } ∧
        a.start = max s.now t ∧ a.uid = e.uid ∧ a.kind = e.kind ∧ a.stream = e.stream ∧ a.frame = e.frame ∧ a.arb = e.arb ∧
        a.header.attempt = BitVec.ofNat 8 (e.attempts + 1) ∧
        a.header.source = BitVec.ofNat 8 s.mod.straps.station.val ∧ a.header.mode = modeCode s.mod.mode ∧
        a.header.sync = syncCode s.ftr.sync ∧ a.header.fault = faultCode s.lnk.faultRecord ∧
        a.header.stream = (match e.stream with | some x => BitVec.ofNat 8 x.val | none => 0xFF) ∧
        a.header.frame = (match e.frame with | some f => f.setWidth 16 | none => 0xFFFF) ∧
        a.header.bodyLength = BitVec.ofNat 16 a.body.length ∧ a.body = (bodyOf (s.clocked t) e).1 ∧
        a.header.flags = (if (bodyOf (s.clocked t) e).2 then 1 else 0) ∧ a.carryOut = carryOutOf e ∧
        (e.body = .status → a.body = statusBody s ∧ a.header.flags = 0) ∧
        (∀ reason, e.body = .gap reason → a.body = [reasonCode reason] ∧ a.header.flags = 0) ∧
        (∀ k w x f r, e.body = .parcel k w → e.stream = some x → e.frame = some f → recordOf s x f = some r →
          let offsets := r.kind == .unit && s.sub.table.any (fun h => h.stream == x && h.units)
          a.header.flags = (if offsets then 1 else 0) ∧ a.carryOut = w.carryOut ∧
          a.body = parcelBody r k w offsets (payloadOf s r) ∧
          a.body.drop (11 + if offsets then 2 * w.units.length else 0) = payloadOf s r)) ∧
    (∀ e q r, s.lnk.queue = e :: q → r ∈ rivals → r < e.arb → exec (.contention t rivals) s = .next (s.clocked t)) ∧
    (s.lnk.state ≠ .joined ∨ s.lnk.queue = [] → exec (.contention t rivals) s = .next (s.clocked t))

/-- ATTEMPT_END of an entry still queued (R119, R129, R130). A dominant end slot adds one to the entry's count (0 for a
STATUS or TRACE rewritten meanwhile); the fourth failure drops it, link_drops gains one, and the record of a PARCEL is
freed. A recessive one takes a STATUS or TRACE out of the queue, or keeps it with count 0 where it was rewritten
meanwhile. -/
def Obligations.AttemptEndSettlesEntry : Prop :=
  ∀ (s : State) (t : Instant) (a : Attempt) (e : Entry), Awake s → s.lnk.attempt = some a →
    s.lnk.queue.find? (fun k => k.uid == a.uid) = some e →
    let counted (n : Nat) : State := { s.clocked t with lnk := { s.lnk with
      attempt := none,
      queue := s.lnk.queue.map (fun k => if k.uid = a.uid then { k with attempts := n, rewritten := false } else k) } }
    ((s.lnk.queue.map (·.uid)).Nodup →
      (¬(e.rewritten = true ∧ (e.kind = .status ∨ e.kind = .trace)) → e.attempts < 3 →
        exec (.attemptEnd t true) s = .next (counted (e.attempts + 1))) ∧
      (e.rewritten = true → e.kind = .status ∨ e.kind = .trace →
        exec (.attemptEnd t true) s = .next (counted 0))) ∧
    (e.rewritten = false → e.attempts = 3 → e.kind ≠ .map →
      ∃ u, exec (.attemptEnd t true) s = .next u ∧ u.lnk.attempt = none ∧ (∀ k ∈ u.lnk.queue, k.uid ≠ a.uid) ∧
        u.mod.counters = { s.mod.counters with
          linkDrops := if s.mod.counters.linkDrops = 65535 then 65535 else s.mod.counters.linkDrops + 1 } ∧
        (∀ x f, e.kind = .parcel → e.stream = some x → e.frame = some f → recordOf u x f = none) ∧
        Within [.time, .line, .queue, .store, .counters] s u) ∧
    (a.kind = e.kind → e.kind = .status ∨ e.kind = .trace →
      (e.rewritten = false →
        exec (.attemptEnd t false) s =
          .next { s.clocked t with lnk := { s.lnk with
            attempt := none, queue := s.lnk.queue.filter (fun k => !(k.uid == a.uid)) } }) ∧
      (e.rewritten = true → exec (.attemptEnd t false) s = .next (counted 0)))

/-- REJECT (R118): a receiver drives the end slot dominant where it judges the bits it read damaged and leaves it
recessive where it judges them sound; one that is no receiver does nothing. Where the drive is kept is the model's
choice (log 36). -/
def Obligations.DamagedMessageRejected : Prop :=
  ∀ (s : State) (t start : Instant) (bits : List Bool), Awake s →
    (isReceiver s start = true → judge bits = none →
      exec (.reject t start bits) s = .next { s.clocked t with lnk := { s.lnk with endSlot := .reject } }) ∧
    (∀ r, isReceiver s start = true → judge bits = some r →
      exec (.reject t start bits) s = .next { s.clocked t with lnk := { s.lnk with endSlot := .recessive } }) ∧
    (isReceiver s start = false → exec (.reject t start bits) s = .next (s.clocked t))

/-- Any completed message, UNKNOWN_KIND_MESSAGE among them (R118, R132): one that this station does not receive has no
effect; one whose body length is not the header's is REJECTed; one that the filter discards, or whose code names no
kind, counts one control error and does nothing else. That it is no DUPLICATE event where it carries this station's own
number is the model's choice (log 59). -/
def Obligations.FilterDiscardsAndCounts : Prop :=
  ∀ (s : State) (t : Instant) (code : Byte) (m : LinkMessage), Awake s →
    (isReceiver s m.start = false → exec (commandOfMessage t code m) s = .next (s.clocked t)) ∧
    (isReceiver s m.start = true → bodyWhole m = false →
      exec (commandOfMessage t code m) s = .next { s.clocked t with lnk := { s.lnk with endSlot := .reject } }) ∧
    (isReceiver s m.start = true → bodyWhole m = true → (∀ k, kindOfCode code = some k → filterPasses k m = false) →
      exec (commandOfMessage t code m) s =
        .next { s.clocked t with
          lnk := { s.lnk with endSlot := .recessive },
          mod := { s.mod with counters := { s.mod.counters with
            controlErrors := if s.mod.counters.controlErrors = 65535 then 65535
              else s.mod.counters.controlErrors + 1 } } })

/-- DUPLICATE_EVENT, and a message heard under this station's own number, in any state but OFFLINE and permanent FAULT
(R123): FAULT by DUPLICATE. The first starts the recovery timer at 10 ms and sets the duplicate instant; a second within
10 s is permanent. An attempt on the line is aborted. That such a message counts no control error is the model's choice
(log 70). -/
def Obligations.DuplicateEventFaults : Prop :=
  ∀ (s : State) (t : Instant), Awake s → s.lnk.state ≠ .offline → s.lnk.permanent = false →
    ((s.lnk.duplicateAt = none ∨ ∃ d, s.lnk.duplicateAt = some d ∧ d + 10000000000 < max s.now t) →
      ∃ u, exec (.duplicateEvent t .hearing) s = .next u ∧
        u.lnk = { s.lnk with state := .fault, faultRecord := .duplicate, joinTimer := none,
                             recoveryTimer := some (max s.now t + 10000000), duplicateAt := some (max s.now t) } ∧
        u.sub.claims = [] ∧ Within [.time, .line, .claims] s u) ∧
    (∀ d, s.lnk.duplicateAt = some d → max s.now t ≤ d + 10000000000 →
      ∃ u, exec (.duplicateEvent t .hearing) s = .next u ∧
        u.lnk = { s.lnk with state := .fault, faultRecord := .duplicate, joinTimer := none, recoveryTimer := none,
                             permanent := true } ∧
        u.sub.claims = [] ∧ Within [.time, .line, .claims] s u) ∧
    (s.lnk.attempt.isSome = true →
      ∃ u, exec (.duplicateEvent t .attempt) s = .next u ∧ u.lnk.state = .fault ∧ u.lnk.faultRecord = .duplicate ∧
        u.lnk.attempt = none ∧ Within [.time, .line, .claims, .store, .queue, .counters, .mapUnit] s u) ∧
    (∀ code k m, kindOfCode code = some k → isReceiver s m.start = true → bodyWhole m = true → filterPasses k m = true →
      m.header.source.toNat = s.mod.straps.station.val →
      ∃ u, exec (commandOfMessage t code m) s = .next u ∧ u.lnk.state = .fault ∧ u.lnk.faultRecord = .duplicate ∧
        u.sub.claims = [] ∧ Within [.time, .line, .claims] s u)

/-- LINE_STUCK, LINE_GOES_RECESSIVE and RECOVERY_TIMER outside OFFLINE and permanent FAULT (R120, R122): a stuck line
aborts the attempt and brings FAULT by STUCK with the recovery timer stopped; when the line goes recessive the timer
starts at 10 ms; at its expiry the link is LISTENING with a fresh join timer, its adoption mark ARMED (R151). -/
def Obligations.StuckLineRecovers : Prop :=
  ∀ (s : State) (t : Instant), Awake s → s.lnk.permanent = false →
    (s.lnk.state ≠ .offline →
      ∃ u, exec (.lineStuck t) s = .next u ∧ u.lnk.state = .fault ∧ u.lnk.faultRecord = .stuck ∧
        u.lnk.recoveryTimer = none ∧ u.lnk.joinTimer = none ∧ u.lnk.attempt = none ∧ u.lnk.stuck = true ∧
        u.lnk.duplicateAt = s.lnk.duplicateAt ∧ u.sub.claims = [] ∧
        Within [.time, .line, .claims, .store, .queue, .counters, .mapUnit] s u) ∧
    (s.lnk.stuck = true → s.lnk.state = .fault →
      exec (.lineGoesRecessive t) s =
        .next { s.clocked t with lnk := { s.lnk with stuck := false,
                                                     recoveryTimer := some (max s.now t + 10000000) } }) ∧
    (∀ d, s.lnk.state = .fault → s.lnk.recoveryTimer = some d → d ≤ max s.now t →
      exec (.recoveryTimer t) s =
        .next { s.clocked t with
          lnk := { s.lnk with state := .listening, joinTimer := some (max s.now t + 216000000), recoveryTimer := none,
                              receivingFrom := max s.now t },
          sub := { s.sub with armed := true } })

/-- JOIN_TIMER at its expiry in LISTENING (R120, R151, R179): JOINED, the adoption mark SPENT, and RESTARTING becomes
RUNNING, as mode or as the return mode of DRAINING. -/
def Obligations.JoinTimerJoins : Prop :=
  ∀ (s : State) (t d : Instant), Awake s → s.lnk.state = .listening → s.lnk.joinTimer = some d → d ≤ max s.now t →
    ∃ u, exec (.joinTimer t) s = .next u ∧
      u.lnk = { s.lnk with state := .joined, joinTimer := none } ∧ u.sub = { s.sub with armed := false } ∧
      u.mod.mode = (if s.mod.mode = .restarting then .running else s.mod.mode) ∧
      u.mod.returnMode = (if s.mod.mode = .draining ∧ s.mod.returnMode = some .restarting then some .running
        else s.mod.returnMode) ∧
      Within [.time, .line, .table, .mode] s u

/-- No attempt comes onto the line but by a CONTENTION that a JOINED station holds (R117, R121). -/
def Obligations.AttemptsOnlyByJoinedContention : Prop :=
  ∀ (s u : State) (c : Instr), exec c s = .next u → s.lnk.attempt = none → u.lnk.attempt.isSome = true →
    s.lnk.state = .joined ∧ s.held = false ∧ ∃ t rivals, c = .contention t rivals

/-- A permanent FAULT stays a FAULT by DUPLICATE until pin reset, and a fault record once set is reset to NONE by pin
reset alone (R123, R124). -/
def Obligations.FaultsOutlastAllButPinReset : Prop :=
  ∀ (s u : State) (c : Instr), FaultSound s → isPinReset c = false → exec c s = .next u →
    FaultSound u ∧ (s.lnk.permanent = true → u.lnk.permanent = true) ∧
    (s.lnk.faultRecord ≠ .none → u.lnk.faultRecord ≠ .none)

/-! ### Peers, maps, subscriptions (R24, R42, R43, R136 to R151) -/

/-- Usable maps, and the order of change counts (R24). -/
def Obligations.ChangeCountsAndUsableMaps : Prop :=
  (∀ m : MuxMap, m.usable = true ↔ m.state = .complete ∨ m.state = .adopted) ∧ (15 : ChangeCount) + 1 = 0 ∧
  (∀ a b : ChangeCount, olderCount a b = true ↔
    1 ≤ (b.toNat + 16 - a.toNat) % 16 ∧ (b.toNat + 16 - a.toNat) % 16 ≤ 7) ∧
  olderCount 14 2 = true ∧ olderCount 2 14 = false

/-- A STATUS heard from a peer (R144, R145, R150): its position is written whole from the notice, present, its aging timer
at 216 ms; and a claim that a lower-numbered peer lists is not kept. -/
def Obligations.StatusUpdatesPeer : Prop :=
  ∀ (s : State) (t : Instant) (m : LinkMessage), Awake s → Heard s .status m →
    let p : Station := Fin.ofNat 8 m.header.source.toNat
    ∃ u, exec (.status t (.heard m)) s = .next u ∧
      u.sub.peers.get p = peerOfStatus m (max s.now t + 216000000) ∧
      (u.sub.peers.get p).isPresent = true ∧ (u.sub.peers.get p).aging = some (max s.now t + 216000000) ∧
      (u.sub.peers.get p).sync = syncOfCode (m.body.getD 2 0) ∧
      (u.sub.peers.get p).count = frameOfField (word16 m.body 3) ∧
      (u.sub.peers.get p).curState = mapStateOfCode (m.body.getD 14 0) ∧
      (u.sub.peers.get p).curCount = (m.body.getD 15 0).setWidth 4 ∧
      (u.sub.peers.get p).curEntries = (m.body.getD 16 0).toNat ∧
      (u.sub.peers.get p).nextState = mapStateOfCode (m.body.getD 17 0) ∧
      (u.sub.peers.get p).nextCount = (m.body.getD 18 0).setWidth 4 ∧
      (u.sub.peers.get p).nextEntries = (m.body.getD 19 0).toNat ∧
      (u.sub.peers.get p).changeFrame = frameOfField (word16 m.body 20) ∧
      (u.sub.peers.get p).claims = ((m.body.drop 40).take (m.body.getD 38 0).toNat).map streamOfByte ∧
      (u.sub.peers.get p).subs.length = (m.body.getD 39 0).toNat ∧
      (∀ n, n < (m.body.getD 39 0).toNat → (u.sub.peers.get p).subs[n]? =
        some (subscriptionOf ((m.body.drop (40 + (m.body.getD 38 0).toNat + 5 * n)).take 5))) ∧
      (∀ q, q ≠ p → u.sub.peers.get q = s.sub.peers.get q) ∧
      (p.val < s.mod.straps.station.val → ∀ x ∈ u.sub.claims, x ∉ (u.sub.peers.get p).claims) ∧
      Within [.time, .line, .peers, .scheduler, .mapUnit, .store, .queue, .counters, .cursors, .table, .claims] s u

/-- PEER_AGING (R146): a present peer whose aging timer has expired becomes absent, its claims and subscription list
emptied. -/
def Obligations.PeerAgesOut : Prop :=
  ∀ (s : State) (t d : Instant) (p : Station), Awake s → (s.sub.peers.get p).isPresent = true →
    (s.sub.peers.get p).aging = some d → d ≤ max s.now t →
    exec (.peerAging t p) s =
      .next { s.clocked t with sub := { s.sub with
        peers := s.sub.peers.set p { s.sub.peers.get p with isPresent := false, claims := [], subs := [], aging := none } } }

/-- A MAP notice heard (R42, R43): one that fails the whole test counts one control error and is ignored; a sound current
map's notice with entries, taken while both maps are NONE outside DRAINING, is adopted: state ADOPTED, source PEER, the
carried counts and entries, no entry own-marked. -/
def Obligations.MapNoticeAdopted : Prop :=
  ∀ (s : State) (t : Instant) (m : LinkMessage), Awake s → Heard s .map m →
    (noticeSound (noticeOf m) = false →
      exec (.map t (.heard m)) s =
        .next { s.clocked t with
          lnk := { s.lnk with endSlot := .recessive },
          mod := { s.mod with counters := { s.mod.counters with
            controlErrors := if s.mod.counters.controlErrors = 65535 then 65535
              else s.mod.counters.controlErrors + 1 } } }) ∧
    (noticeSound (noticeOf m) = true → (noticeOf m).isNext = false → (noticeOf m).entries ≠ [] →
      s.mod.mode ≠ .draining → s.maps.current.state = .none → s.maps.next.state = .none →
      ∃ u, exec (.map t (.heard m)) s = .next u ∧
        u.maps.current.state = .adopted ∧ u.maps.current.source = .peer ∧ u.maps.current.count = (noticeOf m).count ∧
        u.maps.current.entryCount = (noticeOf m).entryCount ∧
        (∀ e, e ∈ u.maps.current.entries ↔ ∃ r ∈ (noticeOf m).entries, e = entryOfRaw r false) ∧
        ClassesReviewed u ∧
        Within [.time, .line, .scheduler, .mapUnit, .store, .queue, .counters, .cursors, .table, .claims] s u)

/-- SUBSCRIBE heard (R137, R139, R140): a new stream and consumer are added at the end of a table of fewer than 16
entries, the stream has a cursor entry, UNSET where it is made now, and the classes are reviewed; at a full table the
request has no effect; a repeat of the held entry changes nothing. -/
def Obligations.SubscribeAddsEntry : Prop :=
  ∀ (s : State) (t : Instant) (m : LinkMessage), Awake s → Heard s .subscribe m →
    let x := streamOfByte m.header.stream
    let e : Subscription := { stream := x, consumer := m.header.source, requested := requestedClass m,
                              effective := .background, trace := traceOption m, units := unitsOption m }
    ((∀ h ∈ s.sub.table, ¬(h.stream = x ∧ h.consumer = m.header.source)) → s.sub.table.length < 16 →
      ∃ u, exec (.subscribe t m) s = .next u ∧
        u.sub.table.map (·.asked) = s.sub.table.map (·.asked) ++ [e] ∧ (cursorOf u x).isSome = true ∧
        (cursorOf s x = none → cursorOf u x =
          some { stream := x, cursor := none, carryIn := none, absent := !inCurrentMap s x, deadline := .none }) ∧
        ClassesReviewed u ∧ Within [.time, .line, .table, .claims, .cursors, .store, .queue] s u) ∧
    ((∀ h ∈ s.sub.table, ¬(h.stream = x ∧ h.consumer = m.header.source)) → 16 ≤ s.sub.table.length →
      exec (.subscribe t m) s = .next { s.clocked t with lnk := { s.lnk with endSlot := .recessive } }) ∧
    ((∃ h ∈ s.sub.table, h.stream = x ∧ h.consumer = m.header.source) →
      (∀ h ∈ s.sub.table, h.stream = x → h.consumer = m.header.source → h.asked = e) →
      exec (.subscribe t m) s = .next { s.clocked t with lnk := { s.lnk with endSlot := .recessive } })

/-- RELEASE heard (R138, R139): the entry of its stream and consumer is removed, and with the last entry of a stream go
its cursor, its records and its queued GAPs; a RELEASE of an entry not held has no effect. -/
def Obligations.ReleaseRemovesEntry : Prop :=
  ∀ (s : State) (t : Instant) (m : LinkMessage), Awake s → Heard s .release m →
    let x := streamOfByte m.header.stream
    ((∃ h ∈ s.sub.table, h.stream = x ∧ h.consumer = m.header.source) →
      ∃ u, exec (.release t m) s = .next u ∧
        u.sub.table.map (·.asked) =
          (s.sub.table.filter (fun h => !(h.stream == x && h.consumer == m.header.source))).map (·.asked) ∧
        ((∀ h ∈ s.sub.table, h.stream = x → h.consumer = m.header.source) → (cursorOf s x).isSome = true →
          cursorOf u x = none ∧ (∀ r ∈ u.pst.records, r.stream ≠ x) ∧
          ∀ e ∈ u.lnk.queue, e.kind = .gap → e.stream ≠ some x) ∧
        ClassesReviewed u ∧ Within [.time, .line, .table, .claims, .cursors, .store, .queue] s u) ∧
    ((∀ h ∈ s.sub.table, ¬(h.stream = x ∧ h.consumer = m.header.source)) →
      exec (.release t m) s = .next { s.clocked t with lnk := { s.lnk with endSlot := .recessive } })

/-! ### Device requests (R176 to R182) -/

/-- ENSEMBLE_CHANGE heard (R177): DRAINING with the return mode of R176, every block clear, SEARCH under the new
ensemble id with the local count kept, nothing queued but a STATUS and the DRAINED, and the link state and an attempt on the
line as they stand (R121, R177). That a station whose attempt is on the line is a receiver of a message from before it is
the model's reading (log 62). -/
def Obligations.EnsembleChangeClears : Prop :=
  ∀ (s : State) (t : Instant) (m : LinkMessage), Awake s → Heard s .ensembleChange m →
    ∃ u, exec (.ensembleChange t m) s = .next u ∧ u.mod.mode = .draining ∧
      u.mod.returnMode = (if s.mod.mode = .draining then s.mod.returnMode else some s.mod.mode) ∧
      u.jsc.jobs = [] ∧ u.jsc.arrivals = [] ∧
      (∀ e : EngineId, (engineOf u e).job = none ∧ (engineOf u e).held = none) ∧
      (∀ x : StreamId, (contextOf u x).warm = false ∧ (contextOf u x).location = .table ∧
        (contextOf u x).checkpoint = .none) ∧
      u.pst.records = [] ∧ (∀ e ∈ u.lnk.queue, e.kind = .status ∨ e.kind = .drained) ∧
      (s.lnk.queue.countP (fun e => e.kind == .status) < 24 →
        (∃ e ∈ u.lnk.queue, e.kind = .drained ∧ e.arb = ownField s 0 0) ∧ u.mod.counters = s.mod.counters) ∧
      u.maps.current.state = .none ∧ u.maps.next.state = .none ∧ u.maps.outgoing = none ∧ u.maps.marker = none ∧
      u.maps.wantCurrent = false ∧ u.maps.wantNext = false ∧ u.maps.holdOff = none ∧
      u.sub.table = [] ∧ u.sub.claims = [] ∧ u.sub.armed = s.sub.armed ∧
      (∀ p : Station, (u.sub.peers.get p).isPresent = false ∧ (u.sub.peers.get p).aging = none) ∧
      u.dlv.cursors = [] ∧ u.dlv.releaseList = [] ∧
      (∀ n : Fin 8, (u.ilm.slots.get n).tag = none ∧ (u.ilm.slots.get n).whole = false) ∧ u.ilm.fill = none ∧
      u.ftr.sync = .search ∧ u.ftr.expected = some (word16 m.body 0) ∧ u.ftr.count = s.ftr.count ∧
      u.ftr.frame = none ∧ u.ftr.marker = none ∧ u.ftr.releases = [] ∧
      u.lnk.state = s.lnk.state ∧ u.lnk.attempt = s.lnk.attempt ∧
      u.mod.statusTimer = (if s.ftr.sync = .locked ∨ s.ftr.sync = .holdover then some (max s.now t + 72000000)
        else s.mod.statusTimer) ∧
      Within [.time, .line, .mode, .scheduler, .arrivals, .store, .queue, .mapUnit, .table, .claims, .peers, .cursors,
        .releaseList, .slots, .tracker, .statusTimer, .counters] s u

/-- RESTART heard, for this station or all (R176, R179): in every mode but DRAINING the mode becomes RESTARTING, the
parcel store is empty, the queue keeps a STATUS alone, every context is COLD, with no checkpoint but of a speculative job
made now, and the jobs are those of the restart pass: of a recorded frame still in the slots, READY or WAITING or begun now
from COLD, with one, where the table has room, for each such frame of a usable map and each decode-set stream present in it
whose cursor is not past it (R81). The maps, the table, the cursors and the arrival record stand,
and a JOINED or LISTENING link is LISTENING with a fresh join timer while a FAULT stays; an attempt on the line runs on
(R121); in DRAINING it is ignored. That the adoption mark is ARMED where the link stands in LISTENING already (log 39), and
that a station whose attempt is on the line is a receiver of a message from before it (log 62), is the model's reading. -/
def Obligations.RestartClears : Prop :=
  ∀ (s : State) (t : Instant) (m : LinkMessage), Awake s → Heard s .restart m → addressed s m = true →
    (s.mod.mode ≠ .draining →
      ∃ u, exec (.restart t m) s = .next u ∧ u.mod.mode = .restarting ∧ u.mod.returnMode = s.mod.returnMode ∧
        u.pst.records = [] ∧ (∀ e ∈ u.lnk.queue, e.kind = .status) ∧ u.sub.claims = [] ∧
        (∀ x : StreamId, (contextOf u x).warm = false ∧ (contextOf u x).next = (contextOf s x).next ∧
          ((contextOf u x).checkpoint = .none ∨ (contextOf u x).checkpoint = .pending ∨
            ∃ k, (contextOf u x).checkpoint = .held k ∧ k.warm = false)) ∧
        (∀ j ∈ u.jsc.jobs, j.discard = false ∧ recordedRelease s j.frame = some j.release ∧ stillInSlots s j.frame = true ∧
          (underWay j = true → j.state = .running ∧ j.started = max s.now t ∧ j.source = .cold)) ∧
        (∀ e x f, (engineOf u e).job = some (x, f) → ∃ j ∈ u.jsc.jobs, j.stream = x ∧ j.frame = f ∧ j.state = .running ∧
          j.engine = e) ∧
        (s.jsc.arrivals.length * (decodeSet u).length ≤ 32 → ∀ x cls f release n,
          (decodeSet u).find? (fun p => p.1 == x) = some (x, cls) → recordedRelease s f = some release →
          stillInSlots s f = true → (applicable s.maps f).usable = true → (applicable s.maps f).entryOf x = some n →
          cursorPast s x f = false →
          ∃ j, jobOf u x f = some j ∧ j.cls = cls ∧ j.changeCount = (applicable s.maps f).count ∧ j.start = n.start ∧
            j.grains = n.grains ∧ j.profile = n.profile ∧ j.kind = n.kind ∧ j.release = release) ∧
        u.maps.current = s.maps.current ∧ u.maps.next = s.maps.next ∧ u.maps.outgoing = s.maps.outgoing ∧
        u.maps.wantCurrent = false ∧ u.maps.wantNext = false ∧ u.maps.holdOff = none ∧ u.sub.table = s.sub.table ∧
        (s.lnk.state = .joined ∨ s.lnk.state = .listening → u.lnk.state = .listening ∧
          u.lnk.joinTimer = some (max s.now t + 216000000) ∧ u.sub.armed = true) ∧
        (s.lnk.state = .fault → u.lnk.state = .fault ∧ u.lnk.recoveryTimer = s.lnk.recoveryTimer) ∧
        u.lnk.attempt = s.lnk.attempt ∧ u.lnk.faultRecord = s.lnk.faultRecord ∧
        Within [.time, .line, .mode, .scheduler, .store, .queue, .mapUnit, .claims, .table] s u) ∧
    (s.mod.mode = .draining →
      exec (.restart t m) s = .next { s.clocked t with lnk := { s.lnk with endSlot := .recessive } })

/-- QUIESCE heard, for this station or all (R176, R180, R181): in RUNNING the mode becomes QUIESCING, jobs under way are
marked for discard and the others removed, no PARCEL, GAP or TRACE stays queued, the store and the claim list are empty,
and with every engine IDLE a QUIESCED is queued; in any other mode it is ignored. That a re-creation put off is given up
with the job is the model's choice (log 19). -/
def Obligations.QuiesceStopsWork : Prop :=
  ∀ (s : State) (t : Instant) (m : LinkMessage), Awake s → Heard s .quiesce m → addressed s m = true →
    (s.mod.mode = .running →
      ∃ u, exec (.quiesce t m) s = .next u ∧ u.mod.mode = .quiescing ∧
        u.jsc.jobs = (s.jsc.jobs.filter underWay).map (fun j => { j with discard := true, putOff := false }) ∧
        u.jsc.engines = s.jsc.engines ∧ u.jsc.contexts = s.jsc.contexts ∧ u.pst.records = [] ∧ u.sub.claims = [] ∧
        (∀ e ∈ u.lnk.queue, e.kind ≠ .parcel ∧ e.kind ≠ .gap ∧ e.kind ≠ .trace) ∧
        (allIdle s = true → RoomFor s .quiesced none none →
          ∃ e ∈ u.lnk.queue, e.kind = .quiesced ∧ e.arb = ownField s 0 0) ∧
        Within [.time, .line, .mode, .scheduler, .queue, .store, .claims, .counters, .mapUnit] s u) ∧
    (s.mod.mode ≠ .running →
      exec (.quiesce t m) s = .next { s.clocked t with lnk := { s.lnk with endSlot := .recessive } })

/-- RESUME heard, for this station or all (R176, R182): in QUIESCING and QUIESCED the mode becomes RUNNING, every
context is COLD and no QUIESCED stays queued, while an attempt on the line runs on; in DRAINING a return mode QUIESCING or
QUIESCED becomes RUNNING; in RUNNING and RESTARTING it is ignored. That a station whose attempt is on the line is a receiver
of a message from before it is the model's reading (log 62). -/
def Obligations.ResumeRuns : Prop :=
  ∀ (s : State) (t : Instant) (m : LinkMessage), Awake s → Heard s .resume m → addressed s m = true →
    (s.mod.mode = .quiescing ∨ s.mod.mode = .quiesced →
      ∃ u, exec (.resume t m) s = .next u ∧ u.mod.mode = .running ∧
        (∀ x : StreamId, (contextOf u x).warm = false ∧ (contextOf u x).next = (contextOf s x).next) ∧
        (∀ e ∈ u.lnk.queue, e.kind ≠ .quiesced) ∧ u.lnk.attempt = s.lnk.attempt ∧
        Within [.time, .line, .mode, .scheduler, .queue, .store, .counters, .mapUnit] s u) ∧
    (s.mod.mode = .draining → s.mod.returnMode = some .quiescing ∨ s.mod.returnMode = some .quiesced →
      exec (.resume t m) s =
        .next { s.clocked t with lnk := { s.lnk with endSlot := .recessive },
                                 mod := { s.mod with returnMode := some .running } }) ∧
    (s.mod.mode = .running ∨ s.mod.mode = .restarting →
      exec (.resume t m) s = .next { s.clocked t with lnk := { s.lnk with endSlot := .recessive } })

/-- This station's own DRAINED and QUIESCED, completed at ATTEMPT_END or as DRAINED and QUIESCED (R178, R181): the
completion of the DRAINED that the queue holds brings the return mode, and at QUIESCED nothing stays queued; the
completion of the QUIESCED that the queue holds, in QUIESCING, brings QUIESCED. One whose entry has been cleared meanwhile
completes with no effect but leaving the line (R119). TRACE, DRAINED and QUIESCED of another station are handed to no block
(R133). That an own message completes by either command is the model's choice (log 9). -/
def Obligations.OwnAcknowledgementsEndModes : Prop :=
  (∀ (s : State) (t : Instant) (a : Attempt) (e : Entry) (c : Instr), Awake s → s.lnk.attempt = some a →
    s.lnk.queue.find? (fun k => k.uid == a.uid) = some e → a.kind = e.kind → e.rewritten = false →
    (e.kind = .drained → s.mod.mode = .draining → c = .attemptEnd t false ∨ c = .drained t .own →
      (s.mod.returnMode = some .running →
        exec c s = .next { s.clocked t with
          lnk := { s.lnk with attempt := none, queue := s.lnk.queue.filter (fun k => !(k.uid == a.uid)) },
          mod := { s.mod with mode := .running, returnMode := none } }) ∧
      (s.mod.returnMode = some .quiesced →
        ∃ u, exec c s = .next u ∧ u.mod.mode = .quiesced ∧ u.mod.returnMode = none ∧ u.lnk.queue = [] ∧
          u.lnk.attempt = none ∧ Within [.time, .line, .mode, .queue, .store] s u)) ∧
    (e.kind = .quiesced → s.mod.mode = .quiescing → c = .attemptEnd t false ∨ c = .quiesced t .own →
      ∃ u, exec c s = .next u ∧ u.mod.mode = .quiesced ∧ u.lnk.queue = [] ∧ u.lnk.attempt = none ∧
        Within [.time, .line, .mode, .queue, .store] s u)) ∧
  (∀ (s : State) (t : Instant) (a : Attempt) (c : Instr), Awake s → s.lnk.attempt = some a →
    s.lnk.queue.find? (fun k => k.uid == a.uid) = none →
    (a.kind = .drained ∧ (c = .attemptEnd t false ∨ c = .drained t .own)) ∨
      (a.kind = .quiesced ∧ (c = .attemptEnd t false ∨ c = .quiesced t .own)) →
    exec c s = .next { s.clocked t with lnk := { s.lnk with attempt := none } }) ∧
  (∀ (s : State) (t : Instant) (m : LinkMessage), Awake s →
    (Heard s .trace m → exec (.trace t (.heard m)) s =
      .next { s.clocked t with lnk := { s.lnk with endSlot := .recessive } }) ∧
    (Heard s .drained m → exec (.drained t (.heard m)) s =
      .next { s.clocked t with lnk := { s.lnk with endSlot := .recessive } }) ∧
    (Heard s .quiesced m → exec (.quiesced t (.heard m)) s =
      .next { s.clocked t with lnk := { s.lnk with endSlot := .recessive } }))

/-! ### Whole machine -/

/-- The straps and the counters: straps change at pin reset alone (R173), and no counter falls but at pin reset
(R170). -/
def Obligations.StrapsHoldAndCountersRise : Prop :=
  ∀ (s u : State) (c : Instr), isPinReset c = false → exec c s = .next u →
    u.mod.straps = s.mod.straps ∧ countersRise s.mod.counters u.mod.counters

/-- Every step keeps the laws of the transmit queue (R125, R126). -/
def Obligations.StepKeepsQueueSound : Prop := ∀ s u : State, QueueSound s → step s = .next u → QueueSound u

/-- Every step keeps the laws of pages and parcel records (R99, R100), and the canonical form of the page memory, the
model's own (log 8). -/
def Obligations.StepKeepsPagesSound : Prop :=
  ∀ s u : State, PagesSound s → MemorySound s → step s = .next u → PagesSound u ∧ MemorySound u

/-- Every step keeps the laws of the job table and the engines (R57, R60, R61, R64). -/
def Obligations.StepKeepsJobsSound : Prop := ∀ s u : State, JobsSound s → step s = .next u → JobsSound u

/-- Every step keeps the classes reviewed (R140, R141) and the laws of the claims (R136, R147, R148). -/
def Obligations.StepKeepsClaimsSound : Prop :=
  ∀ s u : State, ClassesReviewed s → ClaimsSound s → step s = .next u → ClassesReviewed u ∧ ClaimsSound u

/-- Every step keeps the laws of the cursor table (R153, R155, R109) and of queued answers (R159). -/
def Obligations.StepKeepsCursorsSound : Prop :=
  ∀ s u : State, CursorsSound s → AnswersSound s → step s = .next u → CursorsSound u ∧ AnswersSound u

/-- Every step keeps the laws of the tracker and its timers (R9, R14, R17, R167), of the device mode (R176, R179) and of
lane 1 in single-lane mode (R2). -/
def Obligations.StepKeepsTrackerAndModeSound : Prop :=
  ∀ s u : State, TrackerSound s → ModeSound s → LanesSound s → step s = .next u →
    TrackerSound u ∧ ModeSound u ∧ LanesSound u

/-- Every law that a step keeps holds at reset. -/
def Obligations.ResetIsSound : Prop :=
  QueueSound State.reset ∧ PagesSound State.reset ∧ MemorySound State.reset ∧ JobsSound State.reset ∧
  ClassesReviewed State.reset ∧ ClaimsSound State.reset ∧ CursorsSound State.reset ∧ AnswersSound State.reset ∧
  TrackerSound State.reset ∧ ModeSound State.reset ∧ LanesSound State.reset ∧ FaultSound State.reset
end

