-- ==== Sys2Proof/Laws/State.lean ====
section
/-!
SUPPORT. One lemma per field per update of State, each true by unfolding, so that no proof unfolds a record update.
-/

namespace Sys2Proof.Machine

-- one theorem at a time: elaborated side by side, they would hold more threads than the check allows
set_option Elab.async false

/-! ### `setLane` -/

@[simp] theorem setLane_now (s : State) (i : LaneId) (l : Lane) : (setLane s i l).now = s.now := rfl
@[simp] theorem setLane_held (s : State) (i : LaneId) (l : Lane) : (setLane s i l).held = s.held := rfl
@[simp] theorem setLane_lanes (s : State) (i : LaneId) (l : Lane) : (setLane s i l).lanes = s.lanes.set i l := rfl
@[simp] theorem setLane_ftr (s : State) (i : LaneId) (l : Lane) : (setLane s i l).ftr = s.ftr := rfl
@[simp] theorem setLane_maps (s : State) (i : LaneId) (l : Lane) : (setLane s i l).maps = s.maps := rfl
@[simp] theorem setLane_ilm (s : State) (i : LaneId) (l : Lane) : (setLane s i l).ilm = s.ilm := rfl
@[simp] theorem setLane_jsc (s : State) (i : LaneId) (l : Lane) : (setLane s i l).jsc = s.jsc := rfl
@[simp] theorem setLane_pst (s : State) (i : LaneId) (l : Lane) : (setLane s i l).pst = s.pst := rfl
@[simp] theorem setLane_lnk (s : State) (i : LaneId) (l : Lane) : (setLane s i l).lnk = s.lnk := rfl
@[simp] theorem setLane_sub (s : State) (i : LaneId) (l : Lane) : (setLane s i l).sub = s.sub := rfl
@[simp] theorem setLane_dlv (s : State) (i : LaneId) (l : Lane) : (setLane s i l).dlv = s.dlv := rfl
@[simp] theorem setLane_mod (s : State) (i : LaneId) (l : Lane) : (setLane s i l).mod = s.mod := rfl
@[simp] theorem setLane_pending (s : State) (i : LaneId) (l : Lane) : (setLane s i l).pending = s.pending := rfl

/-! ### `setEngine` -/

@[simp] theorem setEngine_now (s : State) (e : EngineId) (x : Engine) : (setEngine s e x).now = s.now := rfl
@[simp] theorem setEngine_held (s : State) (e : EngineId) (x : Engine) : (setEngine s e x).held = s.held := rfl
@[simp] theorem setEngine_lanes (s : State) (e : EngineId) (x : Engine) : (setEngine s e x).lanes = s.lanes := rfl
@[simp] theorem setEngine_ftr (s : State) (e : EngineId) (x : Engine) : (setEngine s e x).ftr = s.ftr := rfl
@[simp] theorem setEngine_maps (s : State) (e : EngineId) (x : Engine) : (setEngine s e x).maps = s.maps := rfl
@[simp] theorem setEngine_ilm (s : State) (e : EngineId) (x : Engine) : (setEngine s e x).ilm = s.ilm := rfl
@[simp] theorem setEngine_jsc_jobs (s : State) (e : EngineId) (x : Engine) : (setEngine s e x).jsc.jobs = s.jsc.jobs := rfl
@[simp] theorem setEngine_jsc_arrivals (s : State) (e : EngineId) (x : Engine) : (setEngine s e x).jsc.arrivals = s.jsc.arrivals := rfl
@[simp] theorem setEngine_jsc_engines (s : State) (e : EngineId) (x : Engine) : (setEngine s e x).jsc.engines = s.jsc.engines.set e x := rfl
@[simp] theorem setEngine_jsc_contexts (s : State) (e : EngineId) (x : Engine) : (setEngine s e x).jsc.contexts = s.jsc.contexts := rfl
@[simp] theorem setEngine_pst (s : State) (e : EngineId) (x : Engine) : (setEngine s e x).pst = s.pst := rfl
@[simp] theorem setEngine_lnk (s : State) (e : EngineId) (x : Engine) : (setEngine s e x).lnk = s.lnk := rfl
@[simp] theorem setEngine_sub (s : State) (e : EngineId) (x : Engine) : (setEngine s e x).sub = s.sub := rfl
@[simp] theorem setEngine_dlv (s : State) (e : EngineId) (x : Engine) : (setEngine s e x).dlv = s.dlv := rfl
@[simp] theorem setEngine_mod (s : State) (e : EngineId) (x : Engine) : (setEngine s e x).mod = s.mod := rfl
@[simp] theorem setEngine_pending (s : State) (e : EngineId) (x : Engine) : (setEngine s e x).pending = s.pending := rfl

/-! ### `setContext` -/

@[simp] theorem setContext_now (s : State) (x : StreamId) (c : Context) : (setContext s x c).now = s.now := rfl
@[simp] theorem setContext_held (s : State) (x : StreamId) (c : Context) : (setContext s x c).held = s.held := rfl
@[simp] theorem setContext_lanes (s : State) (x : StreamId) (c : Context) : (setContext s x c).lanes = s.lanes := rfl
@[simp] theorem setContext_ftr (s : State) (x : StreamId) (c : Context) : (setContext s x c).ftr = s.ftr := rfl
@[simp] theorem setContext_maps (s : State) (x : StreamId) (c : Context) : (setContext s x c).maps = s.maps := rfl
@[simp] theorem setContext_ilm (s : State) (x : StreamId) (c : Context) : (setContext s x c).ilm = s.ilm := rfl
@[simp] theorem setContext_jsc_jobs (s : State) (x : StreamId) (c : Context) : (setContext s x c).jsc.jobs = s.jsc.jobs := rfl
@[simp] theorem setContext_jsc_arrivals (s : State) (x : StreamId) (c : Context) : (setContext s x c).jsc.arrivals = s.jsc.arrivals := rfl
@[simp] theorem setContext_jsc_engines (s : State) (x : StreamId) (c : Context) : (setContext s x c).jsc.engines = s.jsc.engines := rfl
@[simp] theorem setContext_jsc_contexts (s : State) (x : StreamId) (c : Context) : (setContext s x c).jsc.contexts = s.jsc.contexts.set x c := rfl
@[simp] theorem setContext_pst (s : State) (x : StreamId) (c : Context) : (setContext s x c).pst = s.pst := rfl
@[simp] theorem setContext_lnk (s : State) (x : StreamId) (c : Context) : (setContext s x c).lnk = s.lnk := rfl
@[simp] theorem setContext_sub (s : State) (x : StreamId) (c : Context) : (setContext s x c).sub = s.sub := rfl
@[simp] theorem setContext_dlv (s : State) (x : StreamId) (c : Context) : (setContext s x c).dlv = s.dlv := rfl
@[simp] theorem setContext_mod (s : State) (x : StreamId) (c : Context) : (setContext s x c).mod = s.mod := rfl
@[simp] theorem setContext_pending (s : State) (x : StreamId) (c : Context) : (setContext s x c).pending = s.pending := rfl

/-! ### `setJobs` -/

@[simp] theorem setJobs_now (s : State) (js : List Job) : (setJobs s js).now = s.now := rfl
@[simp] theorem setJobs_held (s : State) (js : List Job) : (setJobs s js).held = s.held := rfl
@[simp] theorem setJobs_lanes (s : State) (js : List Job) : (setJobs s js).lanes = s.lanes := rfl
@[simp] theorem setJobs_ftr (s : State) (js : List Job) : (setJobs s js).ftr = s.ftr := rfl
@[simp] theorem setJobs_maps (s : State) (js : List Job) : (setJobs s js).maps = s.maps := rfl
@[simp] theorem setJobs_ilm (s : State) (js : List Job) : (setJobs s js).ilm = s.ilm := rfl
@[simp] theorem setJobs_jsc_jobs (s : State) (js : List Job) : (setJobs s js).jsc.jobs = js := rfl
@[simp] theorem setJobs_jsc_arrivals (s : State) (js : List Job) : (setJobs s js).jsc.arrivals = s.jsc.arrivals := rfl
@[simp] theorem setJobs_jsc_engines (s : State) (js : List Job) : (setJobs s js).jsc.engines = s.jsc.engines := rfl
@[simp] theorem setJobs_jsc_contexts (s : State) (js : List Job) : (setJobs s js).jsc.contexts = s.jsc.contexts := rfl
@[simp] theorem setJobs_pst (s : State) (js : List Job) : (setJobs s js).pst = s.pst := rfl
@[simp] theorem setJobs_lnk (s : State) (js : List Job) : (setJobs s js).lnk = s.lnk := rfl
@[simp] theorem setJobs_sub (s : State) (js : List Job) : (setJobs s js).sub = s.sub := rfl
@[simp] theorem setJobs_dlv (s : State) (js : List Job) : (setJobs s js).dlv = s.dlv := rfl
@[simp] theorem setJobs_mod (s : State) (js : List Job) : (setJobs s js).mod = s.mod := rfl
@[simp] theorem setJobs_pending (s : State) (js : List Job) : (setJobs s js).pending = s.pending := rfl

/-! ### `setQueue` -/

@[simp] theorem setQueue_now (s : State) (q : List Entry) : (setQueue s q).now = s.now := rfl
@[simp] theorem setQueue_held (s : State) (q : List Entry) : (setQueue s q).held = s.held := rfl
@[simp] theorem setQueue_lanes (s : State) (q : List Entry) : (setQueue s q).lanes = s.lanes := rfl
@[simp] theorem setQueue_ftr (s : State) (q : List Entry) : (setQueue s q).ftr = s.ftr := rfl
@[simp] theorem setQueue_maps (s : State) (q : List Entry) : (setQueue s q).maps = s.maps := rfl
@[simp] theorem setQueue_ilm (s : State) (q : List Entry) : (setQueue s q).ilm = s.ilm := rfl
@[simp] theorem setQueue_jsc (s : State) (q : List Entry) : (setQueue s q).jsc = s.jsc := rfl
@[simp] theorem setQueue_pst (s : State) (q : List Entry) : (setQueue s q).pst = s.pst := rfl
@[simp] theorem setQueue_lnk_state (s : State) (q : List Entry) : (setQueue s q).lnk.state = s.lnk.state := rfl
@[simp] theorem setQueue_lnk_queue (s : State) (q : List Entry) : (setQueue s q).lnk.queue = q := rfl
@[simp] theorem setQueue_lnk_attempt (s : State) (q : List Entry) : (setQueue s q).lnk.attempt = s.lnk.attempt := rfl
@[simp] theorem setQueue_lnk_joinTimer (s : State) (q : List Entry) : (setQueue s q).lnk.joinTimer = s.lnk.joinTimer := rfl
@[simp] theorem setQueue_lnk_recoveryTimer (s : State) (q : List Entry) : (setQueue s q).lnk.recoveryTimer = s.lnk.recoveryTimer := rfl
@[simp] theorem setQueue_lnk_stuck (s : State) (q : List Entry) : (setQueue s q).lnk.stuck = s.lnk.stuck := rfl
@[simp] theorem setQueue_lnk_permanent (s : State) (q : List Entry) : (setQueue s q).lnk.permanent = s.lnk.permanent := rfl
@[simp] theorem setQueue_lnk_faultRecord (s : State) (q : List Entry) : (setQueue s q).lnk.faultRecord = s.lnk.faultRecord := rfl
@[simp] theorem setQueue_lnk_duplicateAt (s : State) (q : List Entry) : (setQueue s q).lnk.duplicateAt = s.lnk.duplicateAt := rfl
@[simp] theorem setQueue_lnk_receivingFrom (s : State) (q : List Entry) : (setQueue s q).lnk.receivingFrom = s.lnk.receivingFrom := rfl
@[simp] theorem setQueue_lnk_endSlot (s : State) (q : List Entry) : (setQueue s q).lnk.endSlot = s.lnk.endSlot := rfl
@[simp] theorem setQueue_lnk_nextUid (s : State) (q : List Entry) : (setQueue s q).lnk.nextUid = s.lnk.nextUid := rfl
@[simp] theorem setQueue_sub (s : State) (q : List Entry) : (setQueue s q).sub = s.sub := rfl
@[simp] theorem setQueue_dlv (s : State) (q : List Entry) : (setQueue s q).dlv = s.dlv := rfl
@[simp] theorem setQueue_mod (s : State) (q : List Entry) : (setQueue s q).mod = s.mod := rfl
@[simp] theorem setQueue_pending (s : State) (q : List Entry) : (setQueue s q).pending = s.pending := rfl

/-! ### `setEndSlot` -/

@[simp] theorem setEndSlot_now (s : State) (x : EndSlot) : (setEndSlot s x).now = s.now := rfl
@[simp] theorem setEndSlot_held (s : State) (x : EndSlot) : (setEndSlot s x).held = s.held := rfl
@[simp] theorem setEndSlot_lanes (s : State) (x : EndSlot) : (setEndSlot s x).lanes = s.lanes := rfl
@[simp] theorem setEndSlot_ftr (s : State) (x : EndSlot) : (setEndSlot s x).ftr = s.ftr := rfl
@[simp] theorem setEndSlot_maps (s : State) (x : EndSlot) : (setEndSlot s x).maps = s.maps := rfl
@[simp] theorem setEndSlot_ilm (s : State) (x : EndSlot) : (setEndSlot s x).ilm = s.ilm := rfl
@[simp] theorem setEndSlot_jsc (s : State) (x : EndSlot) : (setEndSlot s x).jsc = s.jsc := rfl
@[simp] theorem setEndSlot_pst (s : State) (x : EndSlot) : (setEndSlot s x).pst = s.pst := rfl
@[simp] theorem setEndSlot_lnk_state (s : State) (x : EndSlot) : (setEndSlot s x).lnk.state = s.lnk.state := rfl
@[simp] theorem setEndSlot_lnk_queue (s : State) (x : EndSlot) : (setEndSlot s x).lnk.queue = s.lnk.queue := rfl
@[simp] theorem setEndSlot_lnk_attempt (s : State) (x : EndSlot) : (setEndSlot s x).lnk.attempt = s.lnk.attempt := rfl
@[simp] theorem setEndSlot_lnk_joinTimer (s : State) (x : EndSlot) : (setEndSlot s x).lnk.joinTimer = s.lnk.joinTimer := rfl
@[simp] theorem setEndSlot_lnk_recoveryTimer (s : State) (x : EndSlot) : (setEndSlot s x).lnk.recoveryTimer = s.lnk.recoveryTimer := rfl
@[simp] theorem setEndSlot_lnk_stuck (s : State) (x : EndSlot) : (setEndSlot s x).lnk.stuck = s.lnk.stuck := rfl
@[simp] theorem setEndSlot_lnk_permanent (s : State) (x : EndSlot) : (setEndSlot s x).lnk.permanent = s.lnk.permanent := rfl
@[simp] theorem setEndSlot_lnk_faultRecord (s : State) (x : EndSlot) : (setEndSlot s x).lnk.faultRecord = s.lnk.faultRecord := rfl
@[simp] theorem setEndSlot_lnk_duplicateAt (s : State) (x : EndSlot) : (setEndSlot s x).lnk.duplicateAt = s.lnk.duplicateAt := rfl
@[simp] theorem setEndSlot_lnk_receivingFrom (s : State) (x : EndSlot) : (setEndSlot s x).lnk.receivingFrom = s.lnk.receivingFrom := rfl
@[simp] theorem setEndSlot_lnk_endSlot (s : State) (x : EndSlot) : (setEndSlot s x).lnk.endSlot = x := rfl
@[simp] theorem setEndSlot_lnk_nextUid (s : State) (x : EndSlot) : (setEndSlot s x).lnk.nextUid = s.lnk.nextUid := rfl
@[simp] theorem setEndSlot_sub (s : State) (x : EndSlot) : (setEndSlot s x).sub = s.sub := rfl
@[simp] theorem setEndSlot_dlv (s : State) (x : EndSlot) : (setEndSlot s x).dlv = s.dlv := rfl
@[simp] theorem setEndSlot_mod (s : State) (x : EndSlot) : (setEndSlot s x).mod = s.mod := rfl
@[simp] theorem setEndSlot_pending (s : State) (x : EndSlot) : (setEndSlot s x).pending = s.pending := rfl

/-! ### `setLink` -/

@[simp] theorem setLink_now (s : State) (l : Link) : (setLink s l).now = s.now := rfl
@[simp] theorem setLink_held (s : State) (l : Link) : (setLink s l).held = s.held := rfl
@[simp] theorem setLink_lanes (s : State) (l : Link) : (setLink s l).lanes = s.lanes := rfl
@[simp] theorem setLink_ftr (s : State) (l : Link) : (setLink s l).ftr = s.ftr := rfl
@[simp] theorem setLink_maps (s : State) (l : Link) : (setLink s l).maps = s.maps := rfl
@[simp] theorem setLink_ilm (s : State) (l : Link) : (setLink s l).ilm = s.ilm := rfl
@[simp] theorem setLink_jsc (s : State) (l : Link) : (setLink s l).jsc = s.jsc := rfl
@[simp] theorem setLink_pst (s : State) (l : Link) : (setLink s l).pst = s.pst := rfl
@[simp] theorem setLink_lnk (s : State) (l : Link) : (setLink s l).lnk = l := rfl
@[simp] theorem setLink_sub (s : State) (l : Link) : (setLink s l).sub = s.sub := rfl
@[simp] theorem setLink_dlv (s : State) (l : Link) : (setLink s l).dlv = s.dlv := rfl
@[simp] theorem setLink_mod (s : State) (l : Link) : (setLink s l).mod = s.mod := rfl
@[simp] theorem setLink_pending (s : State) (l : Link) : (setLink s l).pending = s.pending := rfl

/-! ### `setMaps` -/

@[simp] theorem setMaps_now (s : State) (u : MapUnit) : (setMaps s u).now = s.now := rfl
@[simp] theorem setMaps_held (s : State) (u : MapUnit) : (setMaps s u).held = s.held := rfl
@[simp] theorem setMaps_lanes (s : State) (u : MapUnit) : (setMaps s u).lanes = s.lanes := rfl
@[simp] theorem setMaps_ftr (s : State) (u : MapUnit) : (setMaps s u).ftr = s.ftr := rfl
@[simp] theorem setMaps_maps (s : State) (u : MapUnit) : (setMaps s u).maps = u := rfl
@[simp] theorem setMaps_ilm (s : State) (u : MapUnit) : (setMaps s u).ilm = s.ilm := rfl
@[simp] theorem setMaps_jsc (s : State) (u : MapUnit) : (setMaps s u).jsc = s.jsc := rfl
@[simp] theorem setMaps_pst (s : State) (u : MapUnit) : (setMaps s u).pst = s.pst := rfl
@[simp] theorem setMaps_lnk (s : State) (u : MapUnit) : (setMaps s u).lnk = s.lnk := rfl
@[simp] theorem setMaps_sub (s : State) (u : MapUnit) : (setMaps s u).sub = s.sub := rfl
@[simp] theorem setMaps_dlv (s : State) (u : MapUnit) : (setMaps s u).dlv = s.dlv := rfl
@[simp] theorem setMaps_mod (s : State) (u : MapUnit) : (setMaps s u).mod = s.mod := rfl
@[simp] theorem setMaps_pending (s : State) (u : MapUnit) : (setMaps s u).pending = s.pending := rfl

/-! ### `setCurrent` -/

@[simp] theorem setCurrent_now (s : State) (m : MuxMap) : (setCurrent s m).now = s.now := rfl
@[simp] theorem setCurrent_held (s : State) (m : MuxMap) : (setCurrent s m).held = s.held := rfl
@[simp] theorem setCurrent_lanes (s : State) (m : MuxMap) : (setCurrent s m).lanes = s.lanes := rfl
@[simp] theorem setCurrent_ftr (s : State) (m : MuxMap) : (setCurrent s m).ftr = s.ftr := rfl
@[simp] theorem setCurrent_maps_current (s : State) (m : MuxMap) : (setCurrent s m).maps.current = m := rfl
@[simp] theorem setCurrent_maps_next (s : State) (m : MuxMap) : (setCurrent s m).maps.next = s.maps.next := rfl
@[simp] theorem setCurrent_maps_outgoing (s : State) (m : MuxMap) : (setCurrent s m).maps.outgoing = s.maps.outgoing := rfl
@[simp] theorem setCurrent_maps_marker (s : State) (m : MuxMap) : (setCurrent s m).maps.marker = s.maps.marker := rfl
@[simp] theorem setCurrent_maps_wantCurrent (s : State) (m : MuxMap) : (setCurrent s m).maps.wantCurrent = s.maps.wantCurrent := rfl
@[simp] theorem setCurrent_maps_wantNext (s : State) (m : MuxMap) : (setCurrent s m).maps.wantNext = s.maps.wantNext := rfl
@[simp] theorem setCurrent_maps_holdOff (s : State) (m : MuxMap) : (setCurrent s m).maps.holdOff = s.maps.holdOff := rfl
@[simp] theorem setCurrent_ilm (s : State) (m : MuxMap) : (setCurrent s m).ilm = s.ilm := rfl
@[simp] theorem setCurrent_jsc (s : State) (m : MuxMap) : (setCurrent s m).jsc = s.jsc := rfl
@[simp] theorem setCurrent_pst (s : State) (m : MuxMap) : (setCurrent s m).pst = s.pst := rfl
@[simp] theorem setCurrent_lnk (s : State) (m : MuxMap) : (setCurrent s m).lnk = s.lnk := rfl
@[simp] theorem setCurrent_sub (s : State) (m : MuxMap) : (setCurrent s m).sub = s.sub := rfl
@[simp] theorem setCurrent_dlv (s : State) (m : MuxMap) : (setCurrent s m).dlv = s.dlv := rfl
@[simp] theorem setCurrent_mod (s : State) (m : MuxMap) : (setCurrent s m).mod = s.mod := rfl
@[simp] theorem setCurrent_pending (s : State) (m : MuxMap) : (setCurrent s m).pending = s.pending := rfl

/-! ### `setNext` -/

@[simp] theorem setNext_now (s : State) (m : MuxMap) : (setNext s m).now = s.now := rfl
@[simp] theorem setNext_held (s : State) (m : MuxMap) : (setNext s m).held = s.held := rfl
@[simp] theorem setNext_lanes (s : State) (m : MuxMap) : (setNext s m).lanes = s.lanes := rfl
@[simp] theorem setNext_ftr (s : State) (m : MuxMap) : (setNext s m).ftr = s.ftr := rfl
@[simp] theorem setNext_maps_current (s : State) (m : MuxMap) : (setNext s m).maps.current = s.maps.current := rfl
@[simp] theorem setNext_maps_next (s : State) (m : MuxMap) : (setNext s m).maps.next = m := rfl
@[simp] theorem setNext_maps_outgoing (s : State) (m : MuxMap) : (setNext s m).maps.outgoing = s.maps.outgoing := rfl
@[simp] theorem setNext_maps_marker (s : State) (m : MuxMap) : (setNext s m).maps.marker = s.maps.marker := rfl
@[simp] theorem setNext_maps_wantCurrent (s : State) (m : MuxMap) : (setNext s m).maps.wantCurrent = s.maps.wantCurrent := rfl
@[simp] theorem setNext_maps_wantNext (s : State) (m : MuxMap) : (setNext s m).maps.wantNext = s.maps.wantNext := rfl
@[simp] theorem setNext_maps_holdOff (s : State) (m : MuxMap) : (setNext s m).maps.holdOff = s.maps.holdOff := rfl
@[simp] theorem setNext_ilm (s : State) (m : MuxMap) : (setNext s m).ilm = s.ilm := rfl
@[simp] theorem setNext_jsc (s : State) (m : MuxMap) : (setNext s m).jsc = s.jsc := rfl
@[simp] theorem setNext_pst (s : State) (m : MuxMap) : (setNext s m).pst = s.pst := rfl
@[simp] theorem setNext_lnk (s : State) (m : MuxMap) : (setNext s m).lnk = s.lnk := rfl
@[simp] theorem setNext_sub (s : State) (m : MuxMap) : (setNext s m).sub = s.sub := rfl
@[simp] theorem setNext_dlv (s : State) (m : MuxMap) : (setNext s m).dlv = s.dlv := rfl
@[simp] theorem setNext_mod (s : State) (m : MuxMap) : (setNext s m).mod = s.mod := rfl
@[simp] theorem setNext_pending (s : State) (m : MuxMap) : (setNext s m).pending = s.pending := rfl

/-! ### `setTracker` -/

@[simp] theorem setTracker_now (s : State) (x : Tracker) : (setTracker s x).now = s.now := rfl
@[simp] theorem setTracker_held (s : State) (x : Tracker) : (setTracker s x).held = s.held := rfl
@[simp] theorem setTracker_lanes (s : State) (x : Tracker) : (setTracker s x).lanes = s.lanes := rfl
@[simp] theorem setTracker_ftr (s : State) (x : Tracker) : (setTracker s x).ftr = x := rfl
@[simp] theorem setTracker_maps (s : State) (x : Tracker) : (setTracker s x).maps = s.maps := rfl
@[simp] theorem setTracker_ilm (s : State) (x : Tracker) : (setTracker s x).ilm = s.ilm := rfl
@[simp] theorem setTracker_jsc (s : State) (x : Tracker) : (setTracker s x).jsc = s.jsc := rfl
@[simp] theorem setTracker_pst (s : State) (x : Tracker) : (setTracker s x).pst = s.pst := rfl
@[simp] theorem setTracker_lnk (s : State) (x : Tracker) : (setTracker s x).lnk = s.lnk := rfl
@[simp] theorem setTracker_sub (s : State) (x : Tracker) : (setTracker s x).sub = s.sub := rfl
@[simp] theorem setTracker_dlv (s : State) (x : Tracker) : (setTracker s x).dlv = s.dlv := rfl
@[simp] theorem setTracker_mod (s : State) (x : Tracker) : (setTracker s x).mod = s.mod := rfl
@[simp] theorem setTracker_pending (s : State) (x : Tracker) : (setTracker s x).pending = s.pending := rfl

/-! ### `setFrame` -/

@[simp] theorem setFrame_now (s : State) (f : Frame) : (setFrame s f).now = s.now := rfl
@[simp] theorem setFrame_held (s : State) (f : Frame) : (setFrame s f).held = s.held := rfl
@[simp] theorem setFrame_lanes (s : State) (f : Frame) : (setFrame s f).lanes = s.lanes := rfl
@[simp] theorem setFrame_ftr_sync (s : State) (f : Frame) : (setFrame s f).ftr.sync = s.ftr.sync := rfl
@[simp] theorem setFrame_ftr_count (s : State) (f : Frame) : (setFrame s f).ftr.count = s.ftr.count := rfl
@[simp] theorem setFrame_ftr_expected (s : State) (f : Frame) : (setFrame s f).ftr.expected = s.ftr.expected := rfl
@[simp] theorem setFrame_ftr_flywheel (s : State) (f : Frame) : (setFrame s f).ftr.flywheel = s.ftr.flywheel := rfl
@[simp] theorem setFrame_ftr_marker (s : State) (f : Frame) : (setFrame s f).ftr.marker = s.ftr.marker := rfl
@[simp] theorem setFrame_ftr_frame (s : State) (f : Frame) : (setFrame s f).ftr.frame = some f := rfl
@[simp] theorem setFrame_ftr_payloadOffset (s : State) (f : Frame) : (setFrame s f).ftr.payloadOffset = s.ftr.payloadOffset := rfl
@[simp] theorem setFrame_ftr_releases (s : State) (f : Frame) : (setFrame s f).ftr.releases = s.ftr.releases := rfl
@[simp] theorem setFrame_ftr_control (s : State) (f : Frame) : (setFrame s f).ftr.control = s.ftr.control := rfl
@[simp] theorem setFrame_ftr_nextEnded (s : State) (f : Frame) : (setFrame s f).ftr.nextEnded = s.ftr.nextEnded := rfl
@[simp] theorem setFrame_ftr_lastStart (s : State) (f : Frame) : (setFrame s f).ftr.lastStart = s.ftr.lastStart := rfl
@[simp] theorem setFrame_maps (s : State) (f : Frame) : (setFrame s f).maps = s.maps := rfl
@[simp] theorem setFrame_ilm (s : State) (f : Frame) : (setFrame s f).ilm = s.ilm := rfl
@[simp] theorem setFrame_jsc (s : State) (f : Frame) : (setFrame s f).jsc = s.jsc := rfl
@[simp] theorem setFrame_pst (s : State) (f : Frame) : (setFrame s f).pst = s.pst := rfl
@[simp] theorem setFrame_lnk (s : State) (f : Frame) : (setFrame s f).lnk = s.lnk := rfl
@[simp] theorem setFrame_sub (s : State) (f : Frame) : (setFrame s f).sub = s.sub := rfl
@[simp] theorem setFrame_dlv (s : State) (f : Frame) : (setFrame s f).dlv = s.dlv := rfl
@[simp] theorem setFrame_mod (s : State) (f : Frame) : (setFrame s f).mod = s.mod := rfl
@[simp] theorem setFrame_pending (s : State) (f : Frame) : (setFrame s f).pending = s.pending := rfl

/-! ### `setControl` -/

@[simp] theorem setControl_now (s : State) (c : ControlPath) : (setControl s c).now = s.now := rfl
@[simp] theorem setControl_held (s : State) (c : ControlPath) : (setControl s c).held = s.held := rfl
@[simp] theorem setControl_lanes (s : State) (c : ControlPath) : (setControl s c).lanes = s.lanes := rfl
@[simp] theorem setControl_ftr_sync (s : State) (c : ControlPath) : (setControl s c).ftr.sync = s.ftr.sync := rfl
@[simp] theorem setControl_ftr_count (s : State) (c : ControlPath) : (setControl s c).ftr.count = s.ftr.count := rfl
@[simp] theorem setControl_ftr_expected (s : State) (c : ControlPath) : (setControl s c).ftr.expected = s.ftr.expected := rfl
@[simp] theorem setControl_ftr_flywheel (s : State) (c : ControlPath) : (setControl s c).ftr.flywheel = s.ftr.flywheel := rfl
@[simp] theorem setControl_ftr_marker (s : State) (c : ControlPath) : (setControl s c).ftr.marker = s.ftr.marker := rfl
@[simp] theorem setControl_ftr_frame (s : State) (c : ControlPath) : (setControl s c).ftr.frame = s.ftr.frame := rfl
@[simp] theorem setControl_ftr_payloadOffset (s : State) (c : ControlPath) : (setControl s c).ftr.payloadOffset = s.ftr.payloadOffset := rfl
@[simp] theorem setControl_ftr_releases (s : State) (c : ControlPath) : (setControl s c).ftr.releases = s.ftr.releases := rfl
@[simp] theorem setControl_ftr_control (s : State) (c : ControlPath) : (setControl s c).ftr.control = c := rfl
@[simp] theorem setControl_ftr_nextEnded (s : State) (c : ControlPath) : (setControl s c).ftr.nextEnded = s.ftr.nextEnded := rfl
@[simp] theorem setControl_ftr_lastStart (s : State) (c : ControlPath) : (setControl s c).ftr.lastStart = s.ftr.lastStart := rfl
@[simp] theorem setControl_maps (s : State) (c : ControlPath) : (setControl s c).maps = s.maps := rfl
@[simp] theorem setControl_ilm (s : State) (c : ControlPath) : (setControl s c).ilm = s.ilm := rfl
@[simp] theorem setControl_jsc (s : State) (c : ControlPath) : (setControl s c).jsc = s.jsc := rfl
@[simp] theorem setControl_pst (s : State) (c : ControlPath) : (setControl s c).pst = s.pst := rfl
@[simp] theorem setControl_lnk (s : State) (c : ControlPath) : (setControl s c).lnk = s.lnk := rfl
@[simp] theorem setControl_sub (s : State) (c : ControlPath) : (setControl s c).sub = s.sub := rfl
@[simp] theorem setControl_dlv (s : State) (c : ControlPath) : (setControl s c).dlv = s.dlv := rfl
@[simp] theorem setControl_mod (s : State) (c : ControlPath) : (setControl s c).mod = s.mod := rfl
@[simp] theorem setControl_pending (s : State) (c : ControlPath) : (setControl s c).pending = s.pending := rfl

/-! ### `setMarker` -/

@[simp] theorem setMarker_now (s : State) (x : Instant) : (setMarker s x).now = s.now := rfl
@[simp] theorem setMarker_held (s : State) (x : Instant) : (setMarker s x).held = s.held := rfl
@[simp] theorem setMarker_lanes (s : State) (x : Instant) : (setMarker s x).lanes = s.lanes := rfl
@[simp] theorem setMarker_ftr_sync (s : State) (x : Instant) : (setMarker s x).ftr.sync = s.ftr.sync := rfl
@[simp] theorem setMarker_ftr_count (s : State) (x : Instant) : (setMarker s x).ftr.count = s.ftr.count := rfl
@[simp] theorem setMarker_ftr_expected (s : State) (x : Instant) : (setMarker s x).ftr.expected = s.ftr.expected := rfl
@[simp] theorem setMarker_ftr_flywheel (s : State) (x : Instant) : (setMarker s x).ftr.flywheel = s.ftr.flywheel := rfl
@[simp] theorem setMarker_ftr_marker (s : State) (x : Instant) : (setMarker s x).ftr.marker = some x := rfl
@[simp] theorem setMarker_ftr_frame (s : State) (x : Instant) : (setMarker s x).ftr.frame = s.ftr.frame := rfl
@[simp] theorem setMarker_ftr_payloadOffset (s : State) (x : Instant) : (setMarker s x).ftr.payloadOffset = s.ftr.payloadOffset := rfl
@[simp] theorem setMarker_ftr_releases (s : State) (x : Instant) : (setMarker s x).ftr.releases = s.ftr.releases := rfl
@[simp] theorem setMarker_ftr_control (s : State) (x : Instant) : (setMarker s x).ftr.control = s.ftr.control := rfl
@[simp] theorem setMarker_ftr_nextEnded (s : State) (x : Instant) : (setMarker s x).ftr.nextEnded = s.ftr.nextEnded := rfl
@[simp] theorem setMarker_ftr_lastStart (s : State) (x : Instant) : (setMarker s x).ftr.lastStart = s.ftr.lastStart := rfl
@[simp] theorem setMarker_maps (s : State) (x : Instant) : (setMarker s x).maps = s.maps := rfl
@[simp] theorem setMarker_ilm (s : State) (x : Instant) : (setMarker s x).ilm = s.ilm := rfl
@[simp] theorem setMarker_jsc (s : State) (x : Instant) : (setMarker s x).jsc = s.jsc := rfl
@[simp] theorem setMarker_pst (s : State) (x : Instant) : (setMarker s x).pst = s.pst := rfl
@[simp] theorem setMarker_lnk (s : State) (x : Instant) : (setMarker s x).lnk = s.lnk := rfl
@[simp] theorem setMarker_sub (s : State) (x : Instant) : (setMarker s x).sub = s.sub := rfl
@[simp] theorem setMarker_dlv (s : State) (x : Instant) : (setMarker s x).dlv = s.dlv := rfl
@[simp] theorem setMarker_mod (s : State) (x : Instant) : (setMarker s x).mod = s.mod := rfl
@[simp] theorem setMarker_pending (s : State) (x : Instant) : (setMarker s x).pending = s.pending := rfl

/-! ### `advanceCount` -/

@[simp] theorem advanceCount_now (s : State) : (advanceCount s).now = s.now := rfl
@[simp] theorem advanceCount_held (s : State) : (advanceCount s).held = s.held := rfl
@[simp] theorem advanceCount_lanes (s : State) : (advanceCount s).lanes = s.lanes := rfl
@[simp] theorem advanceCount_ftr_sync (s : State) : (advanceCount s).ftr.sync = s.ftr.sync := rfl
@[simp] theorem advanceCount_ftr_count (s : State) : (advanceCount s).ftr.count = s.ftr.count + 1 := rfl
@[simp] theorem advanceCount_ftr_expected (s : State) : (advanceCount s).ftr.expected = s.ftr.expected := rfl
@[simp] theorem advanceCount_ftr_flywheel (s : State) : (advanceCount s).ftr.flywheel = s.ftr.flywheel := rfl
@[simp] theorem advanceCount_ftr_marker (s : State) : (advanceCount s).ftr.marker = s.ftr.marker := rfl
@[simp] theorem advanceCount_ftr_frame (s : State) : (advanceCount s).ftr.frame = s.ftr.frame := rfl
@[simp] theorem advanceCount_ftr_payloadOffset (s : State) : (advanceCount s).ftr.payloadOffset = s.ftr.payloadOffset := rfl
@[simp] theorem advanceCount_ftr_releases (s : State) : (advanceCount s).ftr.releases = s.ftr.releases := rfl
@[simp] theorem advanceCount_ftr_control (s : State) : (advanceCount s).ftr.control = s.ftr.control := rfl
@[simp] theorem advanceCount_ftr_nextEnded (s : State) : (advanceCount s).ftr.nextEnded = s.ftr.nextEnded := rfl
@[simp] theorem advanceCount_ftr_lastStart (s : State) : (advanceCount s).ftr.lastStart = s.ftr.lastStart := rfl
@[simp] theorem advanceCount_maps (s : State) : (advanceCount s).maps = s.maps := rfl
@[simp] theorem advanceCount_ilm (s : State) : (advanceCount s).ilm = s.ilm := rfl
@[simp] theorem advanceCount_jsc (s : State) : (advanceCount s).jsc = s.jsc := rfl
@[simp] theorem advanceCount_pst (s : State) : (advanceCount s).pst = s.pst := rfl
@[simp] theorem advanceCount_lnk (s : State) : (advanceCount s).lnk = s.lnk := rfl
@[simp] theorem advanceCount_sub (s : State) : (advanceCount s).sub = s.sub := rfl
@[simp] theorem advanceCount_dlv (s : State) : (advanceCount s).dlv = s.dlv := rfl
@[simp] theorem advanceCount_mod (s : State) : (advanceCount s).mod = s.mod := rfl
@[simp] theorem advanceCount_pending (s : State) : (advanceCount s).pending = s.pending := rfl

/-! ### `setIlm` -/

@[simp] theorem setIlm_now (s : State) (m : Ilm) : (setIlm s m).now = s.now := rfl
@[simp] theorem setIlm_held (s : State) (m : Ilm) : (setIlm s m).held = s.held := rfl
@[simp] theorem setIlm_lanes (s : State) (m : Ilm) : (setIlm s m).lanes = s.lanes := rfl
@[simp] theorem setIlm_ftr (s : State) (m : Ilm) : (setIlm s m).ftr = s.ftr := rfl
@[simp] theorem setIlm_maps (s : State) (m : Ilm) : (setIlm s m).maps = s.maps := rfl
@[simp] theorem setIlm_ilm (s : State) (m : Ilm) : (setIlm s m).ilm = m := rfl
@[simp] theorem setIlm_jsc (s : State) (m : Ilm) : (setIlm s m).jsc = s.jsc := rfl
@[simp] theorem setIlm_pst (s : State) (m : Ilm) : (setIlm s m).pst = s.pst := rfl
@[simp] theorem setIlm_lnk (s : State) (m : Ilm) : (setIlm s m).lnk = s.lnk := rfl
@[simp] theorem setIlm_sub (s : State) (m : Ilm) : (setIlm s m).sub = s.sub := rfl
@[simp] theorem setIlm_dlv (s : State) (m : Ilm) : (setIlm s m).dlv = s.dlv := rfl
@[simp] theorem setIlm_mod (s : State) (m : Ilm) : (setIlm s m).mod = s.mod := rfl
@[simp] theorem setIlm_pending (s : State) (m : Ilm) : (setIlm s m).pending = s.pending := rfl

/-! ### `setMode` -/

@[simp] theorem setMode_now (s : State) (m : Mode) : (setMode s m).now = s.now := rfl
@[simp] theorem setMode_held (s : State) (m : Mode) : (setMode s m).held = s.held := rfl
@[simp] theorem setMode_lanes (s : State) (m : Mode) : (setMode s m).lanes = s.lanes := rfl
@[simp] theorem setMode_ftr (s : State) (m : Mode) : (setMode s m).ftr = s.ftr := rfl
@[simp] theorem setMode_maps (s : State) (m : Mode) : (setMode s m).maps = s.maps := rfl
@[simp] theorem setMode_ilm (s : State) (m : Mode) : (setMode s m).ilm = s.ilm := rfl
@[simp] theorem setMode_jsc (s : State) (m : Mode) : (setMode s m).jsc = s.jsc := rfl
@[simp] theorem setMode_pst (s : State) (m : Mode) : (setMode s m).pst = s.pst := rfl
@[simp] theorem setMode_lnk (s : State) (m : Mode) : (setMode s m).lnk = s.lnk := rfl
@[simp] theorem setMode_sub (s : State) (m : Mode) : (setMode s m).sub = s.sub := rfl
@[simp] theorem setMode_dlv (s : State) (m : Mode) : (setMode s m).dlv = s.dlv := rfl
@[simp] theorem setMode_mod_mode (s : State) (m : Mode) : (setMode s m).mod.mode = m := rfl
@[simp] theorem setMode_mod_returnMode (s : State) (m : Mode) : (setMode s m).mod.returnMode = s.mod.returnMode := rfl
@[simp] theorem setMode_mod_counters (s : State) (m : Mode) : (setMode s m).mod.counters = s.mod.counters := rfl
@[simp] theorem setMode_mod_statusTimer (s : State) (m : Mode) : (setMode s m).mod.statusTimer = s.mod.statusTimer := rfl
@[simp] theorem setMode_mod_straps (s : State) (m : Mode) : (setMode s m).mod.straps = s.mod.straps := rfl
@[simp] theorem setMode_pending (s : State) (m : Mode) : (setMode s m).pending = s.pending := rfl

/-! ### `setStatusTimer` -/

@[simp] theorem setStatusTimer_now (s : State) (x : Option Instant) : (setStatusTimer s x).now = s.now := rfl
@[simp] theorem setStatusTimer_held (s : State) (x : Option Instant) : (setStatusTimer s x).held = s.held := rfl
@[simp] theorem setStatusTimer_lanes (s : State) (x : Option Instant) : (setStatusTimer s x).lanes = s.lanes := rfl
@[simp] theorem setStatusTimer_ftr (s : State) (x : Option Instant) : (setStatusTimer s x).ftr = s.ftr := rfl
@[simp] theorem setStatusTimer_maps (s : State) (x : Option Instant) : (setStatusTimer s x).maps = s.maps := rfl
@[simp] theorem setStatusTimer_ilm (s : State) (x : Option Instant) : (setStatusTimer s x).ilm = s.ilm := rfl
@[simp] theorem setStatusTimer_jsc (s : State) (x : Option Instant) : (setStatusTimer s x).jsc = s.jsc := rfl
@[simp] theorem setStatusTimer_pst (s : State) (x : Option Instant) : (setStatusTimer s x).pst = s.pst := rfl
@[simp] theorem setStatusTimer_lnk (s : State) (x : Option Instant) : (setStatusTimer s x).lnk = s.lnk := rfl
@[simp] theorem setStatusTimer_sub (s : State) (x : Option Instant) : (setStatusTimer s x).sub = s.sub := rfl
@[simp] theorem setStatusTimer_dlv (s : State) (x : Option Instant) : (setStatusTimer s x).dlv = s.dlv := rfl
@[simp] theorem setStatusTimer_mod_mode (s : State) (x : Option Instant) : (setStatusTimer s x).mod.mode = s.mod.mode := rfl
@[simp] theorem setStatusTimer_mod_returnMode (s : State) (x : Option Instant) : (setStatusTimer s x).mod.returnMode = s.mod.returnMode := rfl
@[simp] theorem setStatusTimer_mod_counters (s : State) (x : Option Instant) : (setStatusTimer s x).mod.counters = s.mod.counters := rfl
@[simp] theorem setStatusTimer_mod_statusTimer (s : State) (x : Option Instant) : (setStatusTimer s x).mod.statusTimer = x := rfl
@[simp] theorem setStatusTimer_mod_straps (s : State) (x : Option Instant) : (setStatusTimer s x).mod.straps = s.mod.straps := rfl
@[simp] theorem setStatusTimer_pending (s : State) (x : Option Instant) : (setStatusTimer s x).pending = s.pending := rfl

/-! ### `countControlError` -/

@[simp] theorem countControlError_now (s : State) : (countControlError s).now = s.now := rfl
@[simp] theorem countControlError_held (s : State) : (countControlError s).held = s.held := rfl
@[simp] theorem countControlError_lanes (s : State) : (countControlError s).lanes = s.lanes := rfl
@[simp] theorem countControlError_ftr (s : State) : (countControlError s).ftr = s.ftr := rfl
@[simp] theorem countControlError_maps (s : State) : (countControlError s).maps = s.maps := rfl
@[simp] theorem countControlError_ilm (s : State) : (countControlError s).ilm = s.ilm := rfl
@[simp] theorem countControlError_jsc (s : State) : (countControlError s).jsc = s.jsc := rfl
@[simp] theorem countControlError_pst (s : State) : (countControlError s).pst = s.pst := rfl
@[simp] theorem countControlError_lnk (s : State) : (countControlError s).lnk = s.lnk := rfl
@[simp] theorem countControlError_sub (s : State) : (countControlError s).sub = s.sub := rfl
@[simp] theorem countControlError_dlv (s : State) : (countControlError s).dlv = s.dlv := rfl
@[simp] theorem countControlError_mod_mode (s : State) : (countControlError s).mod.mode = s.mod.mode := rfl
@[simp] theorem countControlError_mod_returnMode (s : State) : (countControlError s).mod.returnMode = s.mod.returnMode := rfl
@[simp] theorem countControlError_mod_counters (s : State) : (countControlError s).mod.counters = { s.mod.counters with controlErrors := bump s.mod.counters.controlErrors } := rfl
@[simp] theorem countControlError_mod_statusTimer (s : State) : (countControlError s).mod.statusTimer = s.mod.statusTimer := rfl
@[simp] theorem countControlError_mod_straps (s : State) : (countControlError s).mod.straps = s.mod.straps := rfl
@[simp] theorem countControlError_pending (s : State) : (countControlError s).pending = s.pending := rfl

/-! ### `countLateParcel` -/

@[simp] theorem countLateParcel_now (s : State) : (countLateParcel s).now = s.now := rfl
@[simp] theorem countLateParcel_held (s : State) : (countLateParcel s).held = s.held := rfl
@[simp] theorem countLateParcel_lanes (s : State) : (countLateParcel s).lanes = s.lanes := rfl
@[simp] theorem countLateParcel_ftr (s : State) : (countLateParcel s).ftr = s.ftr := rfl
@[simp] theorem countLateParcel_maps (s : State) : (countLateParcel s).maps = s.maps := rfl
@[simp] theorem countLateParcel_ilm (s : State) : (countLateParcel s).ilm = s.ilm := rfl
@[simp] theorem countLateParcel_jsc (s : State) : (countLateParcel s).jsc = s.jsc := rfl
@[simp] theorem countLateParcel_pst (s : State) : (countLateParcel s).pst = s.pst := rfl
@[simp] theorem countLateParcel_lnk (s : State) : (countLateParcel s).lnk = s.lnk := rfl
@[simp] theorem countLateParcel_sub (s : State) : (countLateParcel s).sub = s.sub := rfl
@[simp] theorem countLateParcel_dlv (s : State) : (countLateParcel s).dlv = s.dlv := rfl
@[simp] theorem countLateParcel_mod_mode (s : State) : (countLateParcel s).mod.mode = s.mod.mode := rfl
@[simp] theorem countLateParcel_mod_returnMode (s : State) : (countLateParcel s).mod.returnMode = s.mod.returnMode := rfl
@[simp] theorem countLateParcel_mod_counters (s : State) : (countLateParcel s).mod.counters = { s.mod.counters with lateParcels := bump s.mod.counters.lateParcels } := rfl
@[simp] theorem countLateParcel_mod_statusTimer (s : State) : (countLateParcel s).mod.statusTimer = s.mod.statusTimer := rfl
@[simp] theorem countLateParcel_mod_straps (s : State) : (countLateParcel s).mod.straps = s.mod.straps := rfl
@[simp] theorem countLateParcel_pending (s : State) : (countLateParcel s).pending = s.pending := rfl

/-! ### `countStoreDrop` -/

@[simp] theorem countStoreDrop_now (s : State) : (countStoreDrop s).now = s.now := rfl
@[simp] theorem countStoreDrop_held (s : State) : (countStoreDrop s).held = s.held := rfl
@[simp] theorem countStoreDrop_lanes (s : State) : (countStoreDrop s).lanes = s.lanes := rfl
@[simp] theorem countStoreDrop_ftr (s : State) : (countStoreDrop s).ftr = s.ftr := rfl
@[simp] theorem countStoreDrop_maps (s : State) : (countStoreDrop s).maps = s.maps := rfl
@[simp] theorem countStoreDrop_ilm (s : State) : (countStoreDrop s).ilm = s.ilm := rfl
@[simp] theorem countStoreDrop_jsc (s : State) : (countStoreDrop s).jsc = s.jsc := rfl
@[simp] theorem countStoreDrop_pst (s : State) : (countStoreDrop s).pst = s.pst := rfl
@[simp] theorem countStoreDrop_lnk (s : State) : (countStoreDrop s).lnk = s.lnk := rfl
@[simp] theorem countStoreDrop_sub (s : State) : (countStoreDrop s).sub = s.sub := rfl
@[simp] theorem countStoreDrop_dlv (s : State) : (countStoreDrop s).dlv = s.dlv := rfl
@[simp] theorem countStoreDrop_mod_mode (s : State) : (countStoreDrop s).mod.mode = s.mod.mode := rfl
@[simp] theorem countStoreDrop_mod_returnMode (s : State) : (countStoreDrop s).mod.returnMode = s.mod.returnMode := rfl
@[simp] theorem countStoreDrop_mod_counters (s : State) : (countStoreDrop s).mod.counters = { s.mod.counters with storeDrops := bump s.mod.counters.storeDrops } := rfl
@[simp] theorem countStoreDrop_mod_statusTimer (s : State) : (countStoreDrop s).mod.statusTimer = s.mod.statusTimer := rfl
@[simp] theorem countStoreDrop_mod_straps (s : State) : (countStoreDrop s).mod.straps = s.mod.straps := rfl
@[simp] theorem countStoreDrop_pending (s : State) : (countStoreDrop s).pending = s.pending := rfl

/-! ### `countQueueDrop` -/

@[simp] theorem countQueueDrop_now (s : State) : (countQueueDrop s).now = s.now := rfl
@[simp] theorem countQueueDrop_held (s : State) : (countQueueDrop s).held = s.held := rfl
@[simp] theorem countQueueDrop_lanes (s : State) : (countQueueDrop s).lanes = s.lanes := rfl
@[simp] theorem countQueueDrop_ftr (s : State) : (countQueueDrop s).ftr = s.ftr := rfl
@[simp] theorem countQueueDrop_maps (s : State) : (countQueueDrop s).maps = s.maps := rfl
@[simp] theorem countQueueDrop_ilm (s : State) : (countQueueDrop s).ilm = s.ilm := rfl
@[simp] theorem countQueueDrop_jsc (s : State) : (countQueueDrop s).jsc = s.jsc := rfl
@[simp] theorem countQueueDrop_pst (s : State) : (countQueueDrop s).pst = s.pst := rfl
@[simp] theorem countQueueDrop_lnk (s : State) : (countQueueDrop s).lnk = s.lnk := rfl
@[simp] theorem countQueueDrop_sub (s : State) : (countQueueDrop s).sub = s.sub := rfl
@[simp] theorem countQueueDrop_dlv (s : State) : (countQueueDrop s).dlv = s.dlv := rfl
@[simp] theorem countQueueDrop_mod_mode (s : State) : (countQueueDrop s).mod.mode = s.mod.mode := rfl
@[simp] theorem countQueueDrop_mod_returnMode (s : State) : (countQueueDrop s).mod.returnMode = s.mod.returnMode := rfl
@[simp] theorem countQueueDrop_mod_counters (s : State) : (countQueueDrop s).mod.counters = { s.mod.counters with queueDrops := bump s.mod.counters.queueDrops } := rfl
@[simp] theorem countQueueDrop_mod_statusTimer (s : State) : (countQueueDrop s).mod.statusTimer = s.mod.statusTimer := rfl
@[simp] theorem countQueueDrop_mod_straps (s : State) : (countQueueDrop s).mod.straps = s.mod.straps := rfl
@[simp] theorem countQueueDrop_pending (s : State) : (countQueueDrop s).pending = s.pending := rfl

/-! ### `countTraceDrop` -/

@[simp] theorem countTraceDrop_now (s : State) : (countTraceDrop s).now = s.now := rfl
@[simp] theorem countTraceDrop_held (s : State) : (countTraceDrop s).held = s.held := rfl
@[simp] theorem countTraceDrop_lanes (s : State) : (countTraceDrop s).lanes = s.lanes := rfl
@[simp] theorem countTraceDrop_ftr (s : State) : (countTraceDrop s).ftr = s.ftr := rfl
@[simp] theorem countTraceDrop_maps (s : State) : (countTraceDrop s).maps = s.maps := rfl
@[simp] theorem countTraceDrop_ilm (s : State) : (countTraceDrop s).ilm = s.ilm := rfl
@[simp] theorem countTraceDrop_jsc (s : State) : (countTraceDrop s).jsc = s.jsc := rfl
@[simp] theorem countTraceDrop_pst (s : State) : (countTraceDrop s).pst = s.pst := rfl
@[simp] theorem countTraceDrop_lnk (s : State) : (countTraceDrop s).lnk = s.lnk := rfl
@[simp] theorem countTraceDrop_sub (s : State) : (countTraceDrop s).sub = s.sub := rfl
@[simp] theorem countTraceDrop_dlv (s : State) : (countTraceDrop s).dlv = s.dlv := rfl
@[simp] theorem countTraceDrop_mod_mode (s : State) : (countTraceDrop s).mod.mode = s.mod.mode := rfl
@[simp] theorem countTraceDrop_mod_returnMode (s : State) : (countTraceDrop s).mod.returnMode = s.mod.returnMode := rfl
@[simp] theorem countTraceDrop_mod_counters (s : State) : (countTraceDrop s).mod.counters = { s.mod.counters with traceDrops := bump s.mod.counters.traceDrops } := rfl
@[simp] theorem countTraceDrop_mod_statusTimer (s : State) : (countTraceDrop s).mod.statusTimer = s.mod.statusTimer := rfl
@[simp] theorem countTraceDrop_mod_straps (s : State) : (countTraceDrop s).mod.straps = s.mod.straps := rfl
@[simp] theorem countTraceDrop_pending (s : State) : (countTraceDrop s).pending = s.pending := rfl

/-! ### `countLinkDrop` -/

@[simp] theorem countLinkDrop_now (s : State) : (countLinkDrop s).now = s.now := rfl
@[simp] theorem countLinkDrop_held (s : State) : (countLinkDrop s).held = s.held := rfl
@[simp] theorem countLinkDrop_lanes (s : State) : (countLinkDrop s).lanes = s.lanes := rfl
@[simp] theorem countLinkDrop_ftr (s : State) : (countLinkDrop s).ftr = s.ftr := rfl
@[simp] theorem countLinkDrop_maps (s : State) : (countLinkDrop s).maps = s.maps := rfl
@[simp] theorem countLinkDrop_ilm (s : State) : (countLinkDrop s).ilm = s.ilm := rfl
@[simp] theorem countLinkDrop_jsc (s : State) : (countLinkDrop s).jsc = s.jsc := rfl
@[simp] theorem countLinkDrop_pst (s : State) : (countLinkDrop s).pst = s.pst := rfl
@[simp] theorem countLinkDrop_lnk (s : State) : (countLinkDrop s).lnk = s.lnk := rfl
@[simp] theorem countLinkDrop_sub (s : State) : (countLinkDrop s).sub = s.sub := rfl
@[simp] theorem countLinkDrop_dlv (s : State) : (countLinkDrop s).dlv = s.dlv := rfl
@[simp] theorem countLinkDrop_mod_mode (s : State) : (countLinkDrop s).mod.mode = s.mod.mode := rfl
@[simp] theorem countLinkDrop_mod_returnMode (s : State) : (countLinkDrop s).mod.returnMode = s.mod.returnMode := rfl
@[simp] theorem countLinkDrop_mod_counters (s : State) : (countLinkDrop s).mod.counters = { s.mod.counters with linkDrops := bump s.mod.counters.linkDrops } := rfl
@[simp] theorem countLinkDrop_mod_statusTimer (s : State) : (countLinkDrop s).mod.statusTimer = s.mod.statusTimer := rfl
@[simp] theorem countLinkDrop_mod_straps (s : State) : (countLinkDrop s).mod.straps = s.mod.straps := rfl
@[simp] theorem countLinkDrop_pending (s : State) : (countLinkDrop s).pending = s.pending := rfl

/-! ### `countSlip` -/

@[simp] theorem countSlip_now (s : State) : (countSlip s).now = s.now := rfl
@[simp] theorem countSlip_held (s : State) : (countSlip s).held = s.held := rfl
@[simp] theorem countSlip_lanes (s : State) : (countSlip s).lanes = s.lanes := rfl
@[simp] theorem countSlip_ftr (s : State) : (countSlip s).ftr = s.ftr := rfl
@[simp] theorem countSlip_maps (s : State) : (countSlip s).maps = s.maps := rfl
@[simp] theorem countSlip_ilm (s : State) : (countSlip s).ilm = s.ilm := rfl
@[simp] theorem countSlip_jsc (s : State) : (countSlip s).jsc = s.jsc := rfl
@[simp] theorem countSlip_pst (s : State) : (countSlip s).pst = s.pst := rfl
@[simp] theorem countSlip_lnk (s : State) : (countSlip s).lnk = s.lnk := rfl
@[simp] theorem countSlip_sub (s : State) : (countSlip s).sub = s.sub := rfl
@[simp] theorem countSlip_dlv (s : State) : (countSlip s).dlv = s.dlv := rfl
@[simp] theorem countSlip_mod_mode (s : State) : (countSlip s).mod.mode = s.mod.mode := rfl
@[simp] theorem countSlip_mod_returnMode (s : State) : (countSlip s).mod.returnMode = s.mod.returnMode := rfl
@[simp] theorem countSlip_mod_counters (s : State) : (countSlip s).mod.counters = { s.mod.counters with slips := bump s.mod.counters.slips } := rfl
@[simp] theorem countSlip_mod_statusTimer (s : State) : (countSlip s).mod.statusTimer = s.mod.statusTimer := rfl
@[simp] theorem countSlip_mod_straps (s : State) : (countSlip s).mod.straps = s.mod.straps := rfl
@[simp] theorem countSlip_pending (s : State) : (countSlip s).pending = s.pending := rfl

/-! ### `setClaims` -/

@[simp] theorem setClaims_now (s : State) (xs : List StreamId) : (setClaims s xs).now = s.now := rfl
@[simp] theorem setClaims_held (s : State) (xs : List StreamId) : (setClaims s xs).held = s.held := rfl
@[simp] theorem setClaims_lanes (s : State) (xs : List StreamId) : (setClaims s xs).lanes = s.lanes := rfl
@[simp] theorem setClaims_ftr (s : State) (xs : List StreamId) : (setClaims s xs).ftr = s.ftr := rfl
@[simp] theorem setClaims_maps (s : State) (xs : List StreamId) : (setClaims s xs).maps = s.maps := rfl
@[simp] theorem setClaims_ilm (s : State) (xs : List StreamId) : (setClaims s xs).ilm = s.ilm := rfl
@[simp] theorem setClaims_jsc (s : State) (xs : List StreamId) : (setClaims s xs).jsc = s.jsc := rfl
@[simp] theorem setClaims_pst (s : State) (xs : List StreamId) : (setClaims s xs).pst = s.pst := rfl
@[simp] theorem setClaims_lnk (s : State) (xs : List StreamId) : (setClaims s xs).lnk = s.lnk := rfl
@[simp] theorem setClaims_sub_table (s : State) (xs : List StreamId) : (setClaims s xs).sub.table = s.sub.table := rfl
@[simp] theorem setClaims_sub_foregroundLoad (s : State) (xs : List StreamId) : (setClaims s xs).sub.foregroundLoad = s.sub.foregroundLoad := rfl
@[simp] theorem setClaims_sub_claims (s : State) (xs : List StreamId) : (setClaims s xs).sub.claims = xs := rfl
@[simp] theorem setClaims_sub_claimLoad (s : State) (xs : List StreamId) : (setClaims s xs).sub.claimLoad = grainSum s xs := rfl
@[simp] theorem setClaims_sub_armed (s : State) (xs : List StreamId) : (setClaims s xs).sub.armed = s.sub.armed := rfl
@[simp] theorem setClaims_sub_claimsOpen (s : State) (xs : List StreamId) : (setClaims s xs).sub.claimsOpen = s.sub.claimsOpen := rfl
@[simp] theorem setClaims_sub_peers (s : State) (xs : List StreamId) : (setClaims s xs).sub.peers = s.sub.peers := rfl
@[simp] theorem setClaims_dlv (s : State) (xs : List StreamId) : (setClaims s xs).dlv = s.dlv := rfl
@[simp] theorem setClaims_mod (s : State) (xs : List StreamId) : (setClaims s xs).mod = s.mod := rfl
@[simp] theorem setClaims_pending (s : State) (xs : List StreamId) : (setClaims s xs).pending = s.pending := rfl

/-! ### `State.clocked` -/

@[simp] theorem State.clocked_now (s : State) (x : Instant) : (State.clocked s x).now = max s.now x := rfl
@[simp] theorem State.clocked_held (s : State) (x : Instant) : (State.clocked s x).held = s.held := rfl
@[simp] theorem State.clocked_lanes (s : State) (x : Instant) : (State.clocked s x).lanes = s.lanes := rfl
@[simp] theorem State.clocked_ftr (s : State) (x : Instant) : (State.clocked s x).ftr = s.ftr := rfl
@[simp] theorem State.clocked_maps (s : State) (x : Instant) : (State.clocked s x).maps = s.maps := rfl
@[simp] theorem State.clocked_ilm (s : State) (x : Instant) : (State.clocked s x).ilm = s.ilm := rfl
@[simp] theorem State.clocked_jsc (s : State) (x : Instant) : (State.clocked s x).jsc = s.jsc := rfl
@[simp] theorem State.clocked_pst (s : State) (x : Instant) : (State.clocked s x).pst = s.pst := rfl
@[simp] theorem State.clocked_lnk (s : State) (x : Instant) : (State.clocked s x).lnk = s.lnk := rfl
@[simp] theorem State.clocked_sub (s : State) (x : Instant) : (State.clocked s x).sub = s.sub := rfl
@[simp] theorem State.clocked_dlv (s : State) (x : Instant) : (State.clocked s x).dlv = s.dlv := rfl
@[simp] theorem State.clocked_mod (s : State) (x : Instant) : (State.clocked s x).mod = s.mod := rfl
@[simp] theorem State.clocked_pending (s : State) (x : Instant) : (State.clocked s x).pending = s.pending := rfl

/-! ### `State.withCommand` -/

@[simp] theorem State.withCommand_now (s : State) (c : Instr) : (State.withCommand s c).now = s.now := rfl
@[simp] theorem State.withCommand_held (s : State) (c : Instr) : (State.withCommand s c).held = s.held := rfl
@[simp] theorem State.withCommand_lanes (s : State) (c : Instr) : (State.withCommand s c).lanes = s.lanes := rfl
@[simp] theorem State.withCommand_ftr (s : State) (c : Instr) : (State.withCommand s c).ftr = s.ftr := rfl
@[simp] theorem State.withCommand_maps (s : State) (c : Instr) : (State.withCommand s c).maps = s.maps := rfl
@[simp] theorem State.withCommand_ilm (s : State) (c : Instr) : (State.withCommand s c).ilm = s.ilm := rfl
@[simp] theorem State.withCommand_jsc (s : State) (c : Instr) : (State.withCommand s c).jsc = s.jsc := rfl
@[simp] theorem State.withCommand_pst (s : State) (c : Instr) : (State.withCommand s c).pst = s.pst := rfl
@[simp] theorem State.withCommand_lnk (s : State) (c : Instr) : (State.withCommand s c).lnk = s.lnk := rfl
@[simp] theorem State.withCommand_sub (s : State) (c : Instr) : (State.withCommand s c).sub = s.sub := rfl
@[simp] theorem State.withCommand_dlv (s : State) (c : Instr) : (State.withCommand s c).dlv = s.dlv := rfl
@[simp] theorem State.withCommand_mod (s : State) (c : Instr) : (State.withCommand s c).mod = s.mod := rfl
@[simp] theorem State.withCommand_pending (s : State) (c : Instr) : (State.withCommand s c).pending = c :: s.pending := rfl

end Sys2Proof.Machine
end

