-- ==== Sys2Proof/Laws/Scope.lean ====
section
/-!
SUPPORT. How changes confined to some parts of State compose, what a confined change leaves as it was, and the updates of
one part.
-/

namespace Sys2Proof.Machine

-- one theorem at a time: elaborated side by side, they would hold more threads than the check allows
set_option Elab.async false

theorem sameIn_refl (a : State) (p : Part) : sameIn a a p := by cases p <;> simp [sameIn]

theorem sameIn_trans {a b c : State} {p : Part} (h : sameIn a b p) (k : sameIn b c p) : sameIn a c p := by
  cases p
  case line =>
    simp only [sameIn] at *
    cases ha : a.lnk; cases hb : b.lnk; cases hc : c.lnk
    simp_all
  all_goals simp_all [sameIn]

theorem Within.refl (ps : List Part) (a : State) : Within ps a a := fun p _ => sameIn_refl a p

theorem Within.trans {ps : List Part} {a b c : State} (h : Within ps a b) (k : Within ps b c) : Within ps a c :=
  fun p hp => sameIn_trans (h p hp) (k p hp)

theorem Within.mono {ps qs : List Part} {a b : State} (h : Within ps a b) (hs : ∀ p ∈ ps, p ∈ qs := by decide) :
    Within qs a b := fun p hp => h p (fun hm => hp (hs p hm))

theorem Within.foldl {α : Type} {ps : List Part} {f : State → α → State} (h : ∀ s x, Within ps s (f s x)) (l : List α)
    (s : State) : Within ps s (l.foldl f s) := by
  induction l generalizing s with
  | nil => exact .refl ps s
  | cons x xs ih => exact (h s x).trans (ih (f s x))

theorem Within.ite {ps : List Part} {s a b : State} {c : Prop} [Decidable c] (ha : c → Within ps s a)
    (hb : ¬c → Within ps s b) : Within ps s (if c then a else b) := by
  split
  · exact ha ‹_›
  · exact hb ‹_›

theorem Within.times {ps : List Part} {f : State → State} (h : ∀ s, Within ps s (f s)) (n : Nat) (s : State) :
    Within ps s (times f n s) := by
  induction n generalizing s with
  | zero => exact .refl ps s
  | succ n ih => exact (h s).trans (ih (f s))

section Reading

variable {ps : List Part} {a b : State} (h : Within ps a b)
include h

theorem Within.now (hp : Part.time ∉ ps := by decide) : b.now = a.now := h _ hp
theorem Within.held (hp : Part.held ∉ ps := by decide) : b.held = a.held := h _ hp
theorem Within.lanes (hp : Part.lanes ∉ ps := by decide) : b.lanes = a.lanes := h _ hp
theorem Within.ftr (hp : Part.tracker ∉ ps := by decide) : b.ftr = a.ftr := h _ hp
theorem Within.maps (hp : Part.mapUnit ∉ ps := by decide) : b.maps = a.maps := h _ hp
theorem Within.ilm (hp : Part.slots ∉ ps := by decide) : b.ilm = a.ilm := h _ hp
theorem Within.jobs (hp : Part.scheduler ∉ ps := by decide) : b.jsc.jobs = a.jsc.jobs := (h _ hp).1
theorem Within.engines (hp : Part.scheduler ∉ ps := by decide) : b.jsc.engines = a.jsc.engines := (h _ hp).2.1
theorem Within.contexts (hp : Part.scheduler ∉ ps := by decide) : b.jsc.contexts = a.jsc.contexts := (h _ hp).2.2
theorem Within.arrivals (hp : Part.arrivals ∉ ps := by decide) : b.jsc.arrivals = a.jsc.arrivals := h _ hp
theorem Within.records (hp : Part.store ∉ ps := by decide) : b.pst.records = a.pst.records := (h _ hp).1
theorem Within.freePages (hp : Part.store ∉ ps := by decide) : b.pst.freePages = a.pst.freePages := (h _ hp).2
theorem Within.pageMem (hp : Part.pageMem ∉ ps := by decide) : b.pst.pageMem = a.pst.pageMem := h _ hp
theorem Within.queue (hp : Part.queue ∉ ps := by decide) : b.lnk.queue = a.lnk.queue := (h _ hp).1
theorem Within.line (hp : Part.line ∉ ps := by decide) :
    { b.lnk with queue := a.lnk.queue, nextUid := a.lnk.nextUid } = a.lnk := h _ hp
theorem Within.table (hp : Part.table ∉ ps := by decide) : b.sub.table = a.sub.table := (h _ hp).1
theorem Within.foregroundLoad (hp : Part.table ∉ ps := by decide) : b.sub.foregroundLoad = a.sub.foregroundLoad :=
  (h _ hp).2.1
theorem Within.armed (hp : Part.table ∉ ps := by decide) : b.sub.armed = a.sub.armed := (h _ hp).2.2
theorem Within.claims (hp : Part.claims ∉ ps := by decide) : b.sub.claims = a.sub.claims := (h _ hp).1
theorem Within.claimLoad (hp : Part.claims ∉ ps := by decide) : b.sub.claimLoad = a.sub.claimLoad := (h _ hp).2.1
theorem Within.claimsOpen (hp : Part.claims ∉ ps := by decide) : b.sub.claimsOpen = a.sub.claimsOpen := (h _ hp).2.2
theorem Within.peers (hp : Part.peers ∉ ps := by decide) : b.sub.peers = a.sub.peers := h _ hp
theorem Within.cursors (hp : Part.cursors ∉ ps := by decide) : b.dlv.cursors = a.dlv.cursors := h _ hp
theorem Within.releaseList (hp : Part.releaseList ∉ ps := by decide) : b.dlv.releaseList = a.dlv.releaseList := h _ hp
theorem Within.counters (hp : Part.counters ∉ ps := by decide) : b.mod.counters = a.mod.counters := h _ hp
theorem Within.mode (hp : Part.mode ∉ ps := by decide) : b.mod.mode = a.mod.mode := (h _ hp).1
theorem Within.returnMode (hp : Part.mode ∉ ps := by decide) : b.mod.returnMode = a.mod.returnMode := (h _ hp).2
theorem Within.statusTimer (hp : Part.statusTimer ∉ ps := by decide) : b.mod.statusTimer = a.mod.statusTimer := h _ hp
theorem Within.straps (hp : Part.straps ∉ ps := by decide) : b.mod.straps = a.mod.straps := h _ hp
theorem Within.pending (hp : Part.pending ∉ ps := by decide) : b.pending = a.pending := h _ hp

theorem Within.linkState (hp : Part.line ∉ ps := by decide) : b.lnk.state = a.lnk.state := by
  have e := congrArg Link.state (h.line hp)
  exact e
theorem Within.attempt (hp : Part.line ∉ ps := by decide) : b.lnk.attempt = a.lnk.attempt := by
  have e := congrArg Link.attempt (h.line hp)
  exact e
theorem Within.faultRecord (hp : Part.line ∉ ps := by decide) : b.lnk.faultRecord = a.lnk.faultRecord := by
  have e := congrArg Link.faultRecord (h.line hp)
  exact e
theorem Within.permanent (hp : Part.line ∉ ps := by decide) : b.lnk.permanent = a.lnk.permanent := by
  have e := congrArg Link.permanent (h.line hp)
  exact e

end Reading

/-! ### Updates of one part -/

theorem within_setLane (s : State) (i : LaneId) (l : Lane) : Within [.lanes] s (setLane s i l) := by
  intro p hp; cases p <;> first | exact absurd (by decide) hp | simp [sameIn]
theorem within_setEngine (s : State) (e : EngineId) (x : Engine) : Within [.scheduler] s (setEngine s e x) := by
  intro p hp; cases p <;> first | exact absurd (by decide) hp | simp [sameIn]
theorem within_setContext (s : State) (x : StreamId) (c : Context) : Within [.scheduler] s (setContext s x c) := by
  intro p hp; cases p <;> first | exact absurd (by decide) hp | simp [sameIn]
theorem within_setJobs (s : State) (js : List Job) : Within [.scheduler] s (setJobs s js) := by
  intro p hp; cases p <;> first | exact absurd (by decide) hp | simp [sameIn]
theorem within_setQueue (s : State) (q : List Entry) : Within [.queue] s (setQueue s q) := by
  intro p hp; cases p <;> first | exact absurd (by decide) hp | simp [sameIn, setQueue]
theorem within_setEndSlot (s : State) (x : EndSlot) : Within [.line] s (setEndSlot s x) := by
  intro p hp; cases p <;> first | exact absurd (by decide) hp | simp [sameIn]
theorem within_setLink (s : State) (l : Link) : Within [.line, .queue] s (setLink s l) := by
  intro p hp; cases p <;> first | exact absurd (by decide) hp | simp [sameIn]
theorem within_setMaps (s : State) (u : MapUnit) : Within [.mapUnit] s (setMaps s u) := by
  intro p hp; cases p <;> first | exact absurd (by decide) hp | simp [sameIn]
theorem within_setCurrent (s : State) (m : MuxMap) : Within [.mapUnit] s (setCurrent s m) := within_setMaps s _
theorem within_setNext (s : State) (m : MuxMap) : Within [.mapUnit] s (setNext s m) := within_setMaps s _
theorem within_setTracker (s : State) (x : Tracker) : Within [.tracker] s (setTracker s x) := by
  intro p hp; cases p <;> first | exact absurd (by decide) hp | simp [sameIn]
theorem within_setFrame (s : State) (f : Frame) : Within [.tracker] s (setFrame s f) := within_setTracker s _
theorem within_setControl (s : State) (c : ControlPath) : Within [.tracker] s (setControl s c) := within_setTracker s _
theorem within_setMarker (s : State) (x : Instant) : Within [.tracker] s (setMarker s x) := within_setTracker s _
theorem within_advanceCount (s : State) : Within [.tracker] s (advanceCount s) := within_setTracker s _
theorem within_setIlm (s : State) (m : Ilm) : Within [.slots] s (setIlm s m) := by
  intro p hp; cases p <;> first | exact absurd (by decide) hp | simp [sameIn]
theorem within_setMode (s : State) (m : Mode) : Within [.mode] s (setMode s m) := by
  intro p hp; cases p <;> first | exact absurd (by decide) hp | simp [sameIn]
theorem within_setStatusTimer (s : State) (x : Option Instant) : Within [.statusTimer] s (setStatusTimer s x) := by
  intro p hp; cases p <;> first | exact absurd (by decide) hp | simp [sameIn]
theorem within_setClaims (s : State) (xs : List StreamId) : Within [.claims] s (setClaims s xs) := by
  intro p hp; cases p <;> first | exact absurd (by decide) hp | simp [sameIn, setClaims]
theorem within_clocked (s : State) (t : Instant) : Within [.time] s (s.clocked t) := by
  intro p hp; cases p <;> first | exact absurd (by decide) hp | simp [sameIn]
theorem within_countControlError (s : State) : Within [.counters] s (countControlError s) := by
  intro p hp; cases p <;> first | exact absurd (by decide) hp | simp [sameIn]
theorem within_countLateParcel (s : State) : Within [.counters] s (countLateParcel s) := by
  intro p hp; cases p <;> first | exact absurd (by decide) hp | simp [sameIn]
theorem within_countStoreDrop (s : State) : Within [.counters] s (countStoreDrop s) := by
  intro p hp; cases p <;> first | exact absurd (by decide) hp | simp [sameIn]
theorem within_countQueueDrop (s : State) : Within [.counters] s (countQueueDrop s) := by
  intro p hp; cases p <;> first | exact absurd (by decide) hp | simp [sameIn]
theorem within_countTraceDrop (s : State) : Within [.counters] s (countTraceDrop s) := by
  intro p hp; cases p <;> first | exact absurd (by decide) hp | simp [sameIn]
theorem within_countLinkDrop (s : State) : Within [.counters] s (countLinkDrop s) := by
  intro p hp; cases p <;> first | exact absurd (by decide) hp | simp [sameIn]
theorem within_countSlip (s : State) : Within [.counters] s (countSlip s) := by
  intro p hp; cases p <;> first | exact absurd (by decide) hp | simp [sameIn]

end Sys2Proof.Machine
end

