-- ==== Sys2Proof/Laws/Frames.lean ====
section
/-!
SUPPORT. The frame of every shared operation: which parts of State it may change.
-/

namespace Sys2Proof.Machine

-- one theorem at a time: elaborated side by side, they would hold more threads than the check allows
set_option Elab.async false

/-! ### Store and transmit queue -/

theorem within_updateRecord (s : State) (x : StreamId) (f : FrameCount) (g : ParcelRecord → ParcelRecord) :
    Within [.store] s (updateRecord s x f g) := by
  intro p hp; cases p <;> first | exact absurd (by decide) hp | simp [sameIn, updateRecord]

theorem within_updateCursor (s : State) (x : StreamId) (g : Cursor → Cursor) : Within [.cursors] s (updateCursor s x g) := by
  intro p hp; cases p <;> first | exact absurd (by decide) hp | simp [sameIn, updateCursor]

theorem within_withdraw (s : State) (q : Entry → Bool) : Within [.queue] s (withdraw s q) := within_setQueue s _

theorem within_freeRecord (s : State) (x : StreamId) (f : FrameCount) : Within [.store, .queue] s (freeRecord s x f) := by
  unfold freeRecord
  split
  · exact .refl _ s
  · rename_i r _
    have h : Within [.store, .queue] s (if r.state = .queued then withdraw s (entryMatches .parcel (some x) (some f)) else s) :=
      .ite (fun _ => (within_withdraw s _).mono) (fun _ => .refl _ s)
    refine h.trans ?_
    intro p hp; cases p <;> first | exact absurd (by decide) hp | simp [sameIn]

theorem within_freeRecords (s : State) (q : ParcelRecord → Bool) : Within [.store, .queue] s (freeRecords s q) :=
  .foldl (fun s (r : ParcelRecord) => within_freeRecord s r.stream r.frame) _ s

theorem within_tellStore (s : State) (e : Entry) : Within [.store, .queue] s (tellStore s e) := by
  unfold tellStore; split
  · exact within_freeRecord _ _ _
  · exact .refl _ s

theorem within_insertNew (s : State) (e : Entry) : Within [.queue] s (insertNew s e) := by
  intro p hp; cases p <;> first | exact absurd (by decide) hp | simp [sameIn, insertNew]

theorem within_rewriteHeld (s : State) (e : Entry) : Within [.queue] s (rewriteHeld s e) := within_setQueue s _

theorem within_offerEntry (s : State) (e : Entry) : Within [.store, .queue, .counters] s (offerEntry s e).1 := by
  unfold offerEntry
  split
  · exact .refl _ s
  split
  · split
    · exact (within_rewriteHeld s e).mono.trans (within_countTraceDrop _).mono
    · exact (within_rewriteHeld s e).mono
    · exact .refl _ s
  split
  · exact (within_countTraceDrop s).mono
  split
  · exact (within_insertNew s e).mono
  split
  · exact (within_insertNew s e).mono
  split
  · exact ((within_setQueue s _).mono.trans (within_countQueueDrop _).mono).trans
      ((within_insertNew _ e).mono.trans (within_tellStore _ _).mono)
  · exact (within_countQueueDrop s).mono

theorem within_noticeSent (s : State) (isNext : Bool) : Within [.mapUnit] s (noticeSent s isNext) := by
  intro p hp; cases p <;> first | exact absurd (by decide) hp | simp [sameIn, noticeSent]

theorem within_testNotice (s : State) : Within [.store, .queue, .counters, .mapUnit] s (testNotice s) := by
  unfold testNotice
  have h := (within_offerEntry s (noticeEntry s (!s.maps.wantCurrent))).mono
    (qs := [.store, .queue, .counters, .mapUnit])
  exact .ite (fun _ => .ite (fun _ => h.trans (within_noticeSent _ _).mono) (fun _ => h)) (fun _ => .refl _ s)

theorem within_offer (s : State) (e : Entry) : Within [.store, .queue, .counters, .mapUnit] s (offer s e).1 := by
  have h := (within_offerEntry s e).mono (qs := [.store, .queue, .counters, .mapUnit])
  unfold offer
  dsimp only
  split
  · exact h.trans (within_testNotice _)
  · exact h

theorem within_offerAnyway (s : State) (e : Entry) : Within [.store, .queue, .counters, .mapUnit] s (offerAnyway s e) :=
  within_offer s e

theorem within_settleClaims (s : State) : Within [.claims] s (settleClaims s) := by
  unfold settleClaims
  split
  · exact .refl _ s
  · intro p hp; cases p <;> first | exact absurd (by decide) hp | simp [sameIn]

/-! ### Delivery -/

theorem within_queueParcel (s : State) (r : ParcelRecord) : Within [.store, .queue, .counters, .mapUnit] s (queueParcel s r) := by
  unfold queueParcel
  dsimp only
  split
  · exact (within_offer s _).trans (within_updateRecord _ _ _ _).mono
  · exact (within_offer s _).trans (within_freeRecord _ _ _).mono

theorem within_handOver (s : State) (r : ParcelRecord) : Within [.store, .queue, .counters, .mapUnit] s (handOver s r) := by
  unfold handOver
  split
  · split
    · exact within_queueParcel s r
    · exact (within_updateRecord _ _ _ _).mono
  · exact (within_updateRecord _ _ _ _).mono

theorem within_queueGap (s : State) (x : StreamId) (f : FrameCount) (y : GapReason) :
    Within [.store, .queue, .counters, .mapUnit] s (queueGap s x f y) := within_offerAnyway s _

theorem within_answerDeadline (s : State) (x : StreamId) (f : FrameCount) :
    Within [.store, .queue, .counters, .mapUnit] s (answerDeadline s x f) := by
  unfold answerDeadline
  split
  · exact .refl _ s
  split
  · exact (within_queueGap s x f _).trans (within_freeRecord _ _ _).mono
  split <;> exact within_queueGap s x f _

theorem within_expireDeadline (s : State) (x : StreamId) (f : FrameCount) :
    Within [.store, .queue, .counters, .mapUnit, .cursors] s (expireDeadline s x f) := by
  unfold expireDeadline
  exact .trans (.ite (fun _ => .refl _ s) (fun _ => (within_answerDeadline s x f).mono)) (within_updateCursor _ _ _).mono

theorem within_armDeadline (s : State) (x : StreamId) (f : FrameCount) :
    Within [.store, .queue, .counters, .mapUnit, .cursors] s (armDeadline s x f) := by
  unfold armDeadline
  split
  · exact (within_updateCursor _ _ _).mono
  split
  · exact (within_updateCursor _ _ _).mono
  split
  · exact (within_updateCursor _ _ _).mono
  · exact within_expireDeadline s x f

theorem within_withdrawGaps (s : State) (x : StreamId) : Within [.queue] s (withdrawGaps s x) := within_withdraw s _

theorem within_withdrawOthers (s : State) (x : StreamId) (f : FrameCount) :
    Within [.store, .queue] s (withdrawOthers s x f) :=
  (within_withdraw s _).mono.trans (.foldl within_tellStore _ _)

theorem within_rewalk (s : State) (x : StreamId) (f : FrameCount) : Within [.queue] s (rewalk s x f) := by
  unfold rewalk
  split
  · exact .refl _ s
  · exact within_setQueue s _

theorem within_releaseHeld (s : State) (x : StreamId) (f : FrameCount) :
    Within [.store, .queue, .counters, .mapUnit] s (releaseHeld s x f) := by
  unfold releaseHeld
  split
  · exact .refl _ s
  · exact .ite (fun _ => within_queueParcel s _) (fun _ => .refl _ s)

theorem within_arriveAt (s : State) (x : StreamId) (f : FrameCount) :
    Within [.store, .queue, .counters, .mapUnit, .cursors] s (arriveAt s x f) :=
  ((within_withdrawOthers s x f).mono.trans (within_rewalk _ x f).mono).trans
    ((within_releaseHeld _ x f).mono.trans (within_armDeadline _ x f))

theorem within_setCursor (s : State) (x : StreamId) (f : FrameCount) (k : Option Nat) :
    Within [.store, .queue, .counters, .mapUnit, .cursors] s (setCursor s x f k) :=
  (within_updateCursor s x _).mono.trans (within_arriveAt _ x f)

theorem within_unsetCursor (s : State) (x : StreamId) : Within [.queue, .cursors] s (unsetCursor s x) :=
  (within_updateCursor s x _).mono.trans (within_withdrawGaps _ x).mono

theorem within_moveCursor (s : State) (x : StreamId) (f : FrameCount) (k : Option Nat) :
    Within [.store, .queue, .counters, .mapUnit, .cursors] s (moveCursor s x f k) := by
  unfold moveCursor
  split
  · exact .refl _ s
  · exact .ite (fun _ => within_setCursor s x _ k) (fun _ => .refl _ s)

theorem within_addCursor (s : State) (x : StreamId) : Within [.cursors] s (addCursor s x) := by
  intro p hp; cases p <;> first | exact absurd (by decide) hp | simp [sameIn, addCursor]

theorem within_removeCursor (s : State) (x : StreamId) : Within [.store, .queue, .cursors] s (removeCursor s x) := by
  unfold removeCursor
  refine .trans ?_ (within_freeRecords _ _).mono
  refine .trans ?_ (within_withdrawGaps _ _).mono
  intro p hp; cases p <;> first | exact absurd (by decide) hp | simp [sameIn]

theorem within_reviewCursor (s : State) (x : StreamId) :
    Within [.store, .queue, .counters, .mapUnit, .cursors] s (reviewCursor s x) := by
  unfold reviewCursor
  split
  · exact .refl _ s
  split
  · exact .ite (fun _ => .refl _ s) (fun _ => (within_updateCursor s x _).mono.trans (within_unsetCursor _ x).mono)
  have h := (within_updateCursor s x (fun c => { c with absent := false })).mono
    (qs := [.store, .queue, .counters, .mapUnit, .cursors])
  dsimp only
  split
  · exact h
  split
  · exact .ite (fun _ => h.trans (within_armDeadline _ x _)) (fun _ => h)
  · exact .ite (fun _ => h) (fun _ => h.trans ((within_updateCursor _ x _).mono.trans (within_withdraw _ _).mono))

theorem within_reviewCursors (s : State) : Within [.store, .queue, .counters, .mapUnit, .cursors] s (reviewCursors s) :=
  .foldl within_reviewCursor _ s

theorem within_resync (s : State) (g : FrameCount) : Within [.queue, .cursors] s (resync s g) := by
  refine .foldl (fun s x => ?_) _ s
  split
  · exact .ite (fun _ => within_unsetCursor s x) (fun _ => .refl _ s)
  · exact .refl _ s

theorem within_repeatLapsed (s : State) : Within [.store, .queue, .counters, .mapUnit] s (repeatLapsed s) := by
  refine .foldl (fun s x => ?_) _ s
  split
  · split
    · exact .ite (fun _ => within_answerDeadline s x _) (fun _ => .refl _ s)
    · exact .refl _ s
  · exact .refl _ s

theorem within_releaseEvent (s : State) (f : FrameCount) (r : Instant) :
    Within [.cursors, .releaseList] s (releaseEvent s f r) := by
  intro p hp; cases p <;> first | exact absurd (by decide) hp | simp [sameIn, releaseEvent]

theorem within_slipDelivery (s : State) : Within [.queue, .cursors, .releaseList] s (slipDelivery s) := by
  refine .trans (within_withdraw s (fun e => e.kind == .gap)).mono ?_
  intro p hp; cases p <;> first | exact absurd (by decide) hp | simp [sameIn, slipDelivery]

/-! ### Parcel store -/

theorem within_setOffer (s : State) (r : ParcelRecord) : Within [.store] s (setOffer s r) := within_updateRecord _ _ _ _

theorem within_placeRecord (s : State) (r : ParcelRecord) : Within [.store, .queue, .counters, .mapUnit] s (placeRecord s r) := by
  unfold placeRecord
  split
  · exact (within_updateRecord _ _ _ _).mono
  split
  · exact ((within_setOffer s r).trans (within_updateRecord _ _ _ _)).mono
  · exact (within_setOffer s r).mono.trans (within_handOver _ r)

theorem within_fillRecord (s : State) (j : Job) (o : JobOutcome) : Within [.store, .pageMem] s (fillRecord s j o) := by
  intro p hp; cases p <;> first | exact absurd (by decide) hp | simp [sameIn, fillRecord]

theorem within_evict (s : State) (vs : List ParcelRecord) : Within [.store, .queue, .counters] s (evict s vs) := by
  refine .foldl (fun s r => ?_) _ s
  have h := (within_freeRecord s r.stream r.frame).mono (qs := [.store, .queue, .counters])
  exact .ite (fun _ => h.trans (within_countStoreDrop _).mono) (fun _ => h)

theorem within_makeRecord (s : State) (j : Job) (o : JobOutcome) :
    Within [.store, .queue, .counters, .mapUnit, .pageMem] s (makeRecord s j o) := by
  unfold makeRecord
  split
  · exact (within_countStoreDrop s).mono
  split
  · exact (within_countStoreDrop s).mono
  rename_i vs _
  have h := (within_evict s vs).mono.trans
    ((within_fillRecord (evict s vs) j o).mono (qs := [.store, .queue, .counters, .mapUnit, .pageMem]))
  dsimp only
  split
  · exact h
  split
  · exact h.trans (within_placeRecord _ _).mono
  · exact h

theorem within_confirmRecord (s : State) (x : StreamId) (f : FrameCount) :
    Within [.store, .queue, .counters, .mapUnit] s (confirmRecord s x f) := by
  unfold confirmRecord
  have h := (within_updateRecord s x f (fun r => { r with speculative := false })).mono
    (qs := [.store, .queue, .counters, .mapUnit])
  dsimp only
  split
  · exact h
  · exact .ite (fun _ => h.trans (within_freeRecord _ _ _).mono) (fun _ => h.trans (within_placeRecord _ _))

theorem within_confirmRecords (s : State) : Within [.store, .queue, .counters, .mapUnit] s (confirmRecords s) :=
  .foldl (fun s (r : ParcelRecord) => within_confirmRecord s r.stream r.frame) _ s

theorem within_dropSpeculative (s : State) : Within [.store, .queue] s (dropSpeculative s) := within_freeRecords s _

theorem within_ageOut (s : State) (g : FrameCount) : Within [.store, .queue] s (ageOut s g) := within_freeRecords s _

theorem within_emptyStore (s : State) : Within [.store, .queue] s (emptyStore s) := within_freeRecords s _

/-! ### Subscriptions and claims -/

theorem within_classReview (s : State) : Within [.table] s (classReview s) := by
  intro p hp; cases p <;> first | exact absurd (by decide) hp | simp [sameIn, classReview]

theorem within_claimReview (s : State) : Within [.claims] s (claimReview s) := by
  unfold claimReview
  exact .ite (fun _ => within_setClaims s _) (fun _ => .refl _ s)

theorem within_openClaims (s : State) : Within [.claims] s (openClaims s) := by
  unfold openClaims
  refine .trans ?_ (within_claimReview _)
  intro p hp; cases p <;> first | exact absurd (by decide) hp | simp [sameIn]

theorem within_tieBreak (s : State) (p : Station) : Within [.claims] s (tieBreak s p) := by
  unfold tieBreak
  exact .ite (fun _ => (within_setClaims s _).trans (within_claimReview _)) (fun _ => .refl _ s)

theorem within_tableChange (s : State) (t : List Subscription) :
    Within [.table, .claims, .cursors, .store, .queue] s (tableChange s t) := by
  unfold tableChange
  have h : Within [.table] s { s with sub := { s.sub with table := t } } := by
    intro p hp; cases p <;> first | exact absurd (by decide) hp | simp [sameIn]
  refine .trans (h.mono.trans (within_classReview _).mono) ?_
  refine .trans ?_ (within_claimReview _).mono
  exact .trans (.foldl (fun s x => (within_addCursor s x).mono) _ _) (.foldl (fun s x => (within_removeCursor s x).mono) _ _)

theorem within_applySubscribe (s : State) (e : Subscription) :
    Within [.table, .claims, .cursors, .store, .queue] s (applySubscribe s e) := by
  unfold applySubscribe
  split
  · exact .ite (fun _ => .refl _ s) (fun _ => within_tableChange s _)
  · exact .ite (fun _ => within_tableChange s _) (fun _ => .refl _ s)

theorem within_applyRelease (s : State) (x : StreamId) (c : Byte) :
    Within [.table, .claims, .cursors, .store, .queue] s (applyRelease s x c) := by
  unfold applyRelease
  exact .ite (fun _ => within_tableChange s _) (fun _ => .refl _ s)

theorem within_spendMark (s : State) : Within [.table] s (spendMark s) := by
  intro p hp; cases p <;> first | exact absurd (by decide) hp | simp [sameIn, spendMark]

theorem within_adoptSubscriptions (s : State) (l : List Subscription) :
    Within [.table, .claims, .cursors, .store, .queue, .counters] s (adoptSubscriptions s l) :=
  ((Within.times (fun s => (within_countControlError s).mono) _ s).trans (within_spendMark _).mono).trans
    (within_tableChange _ _).mono

/-! ### Jobs, engines, contexts -/

theorem within_retest (s : State) : Within [.scheduler] s (retest s) := within_setJobs s _

theorem within_updateJob (s : State) (x : StreamId) (f : FrameCount) (g : Job → Job) :
    Within [.scheduler] s (updateJob s x f g) := within_setJobs s _

theorem within_dropHolders (s : State) (x : StreamId) (k : Option EngineId) : Within [.scheduler] s (dropHolders s x k) :=
  .foldl (fun s e => .ite (fun _ => within_setEngine s e _) (fun _ => .refl _ s)) _ s

theorem within_locate (s : State) (x : StreamId) (l : Location) : Within [.scheduler] s (locate s x l) :=
  within_setContext s x _

theorem within_takeCheckpoint (s : State) (j : Job) : Within [.scheduler] s (takeCheckpoint s j) := by
  unfold takeCheckpoint
  exact .ite (fun _ => within_setContext s _ _) (fun _ => .refl _ s)

theorem within_beginDecoding (s : State) (e : EngineId) (j : Job) : Within [.scheduler] s (beginDecoding s e j) :=
  (within_takeCheckpoint s j).trans (within_setEngine _ _ _)

theorem within_takeContext (s : State) (e : EngineId) (j : Job) : Within [.scheduler] s (takeContext s e j) := by
  unfold takeContext
  dsimp only
  split
  · exact within_beginDecoding s e j
  · split
    · exact within_beginDecoding s e j
    · exact ((within_dropHolders s _ _).trans (within_setContext _ _ _)).trans
        ((within_setEngine _ _ _).trans (within_beginDecoding _ e j))
  · split
    · exact (within_setEngine s _ _).trans (within_setEngine _ _ _)
    · exact within_setEngine s _ _
  · split
    · split <;> exact within_setEngine s _ _
    · exact within_setEngine s _ _

theorem within_dropHeld (s : State) (e : EngineId) (x : StreamId) : Within [.scheduler] s (dropHeld s e x) := by
  unfold dropHeld
  dsimp only
  exact .ite (fun _ => (within_setEngine s _ _).trans (within_locate _ _ _)) (fun _ => within_setEngine s _ _)

theorem within_beginMoves (round : List EngineId) (s : State) (e : EngineId) :
    Within [.scheduler] s (beginMoves round s e) := by
  unfold beginMoves
  split
  · exact .refl _ s
  split
  · exact within_takeContext s e _
  split
  · exact within_takeContext s e _
  split
  · exact within_setEngine s _ _
  split
  · exact within_setEngine s _ _
  · exact (within_dropHeld s e _).trans (within_takeContext _ e _)

theorem within_assign (n : Nat) (s : State) (round : List EngineId) : Within [.scheduler] s (assign n s round).1 := by
  induction n generalizing s round with
  | zero => exact .refl _ s
  | succ n ih =>
    unfold assign
    split
    · exact .refl _ s
    split
    · exact .refl _ s
    · exact ((within_updateJob s _ _ _).trans (within_setEngine _ _ _)).trans (ih _ _)

theorem within_issueRound (s : State) : Within [.scheduler] s (issueRound s) := by
  unfold issueRound
  split
  · exact .refl _ s
  · exact (within_assign 3 s []).trans (.foldl (within_beginMoves _) _ _)

theorem within_settleJobs (s : State) : Within [.scheduler] s (settleJobs s) :=
  (within_retest s).trans (within_issueRound _)

theorem within_openCheckpoint (s : State) (x : StreamId) : Within [.scheduler, .mapUnit] s (openCheckpoint s x) := by
  unfold openCheckpoint
  dsimp only
  split
  · exact .refl _ s
  · exact (within_setContext s _ _).mono.trans (within_setMaps _ _).mono

theorem within_createJob (s : State) (x : StreamId) (c : JobClass) (f : FrameCount) (r : Instant) :
    Within [.scheduler, .mapUnit] s (createJob s x c f r) := by
  unfold createJob
  dsimp only
  split
  · exact .refl _ s
  split
  · exact .refl _ s
  · exact .trans (b := ite _ _ _) (.ite (fun _ => within_openCheckpoint s x) (fun _ => .refl _ s)) (within_setJobs _ _).mono

theorem within_createFrame (s : State) (f : FrameCount) (r : Instant) :
    Within [.scheduler, .mapUnit] s (createFrame s f r) := .foldl (fun s (p : StreamId × JobClass) => within_createJob s p.1 p.2 f r) _ s

theorem within_createMissed (s : State) (f : FrameCount) (r : Instant) :
    Within [.scheduler, .mapUnit] s (createMissed s f r) :=
  .foldl (fun s (p : StreamId × JobClass) => .ite (fun _ => .refl _ s) (fun _ => within_createJob s p.1 p.2 f r)) _ s

theorem within_recreateJob (s : State) (x : StreamId) (c : JobClass) (f : FrameCount) (r : Instant) :
    Within [.scheduler, .mapUnit] s (recreateJob s x c f r) := by
  unfold recreateJob
  split
  · exact .refl _ s
  split
  · exact .ite (fun _ => (within_updateJob s _ _ _).mono) (fun _ => .refl _ s)
  · exact within_createJob s x c f r

theorem within_createOver (s : State) (q : FrameCount → Bool) (create : State → FrameCount → Instant → State)
    (h : ∀ s f r, Within [.scheduler, .mapUnit] s (create s f r)) :
    Within [.scheduler, .mapUnit] s (createOver s q create) := by
  refine .foldl (fun s f => ?_) _ s
  split
  · exact .ite (fun _ => h s f _) (fun _ => .refl _ s)
  · exact .refl _ s

theorem within_catchUp (s : State) (d : FrameCount) : Within [.scheduler, .mapUnit] s (catchUp s d) := by
  unfold catchUp
  exact .ite (fun _ => (within_createOver s _ _ within_createMissed).trans (within_settleJobs _).mono) (fun _ => .refl _ s)

theorem within_restartPass (s : State) : Within [.scheduler, .mapUnit] s (restartPass s) := by
  unfold restartPass
  exact .ite (fun _ => (within_createOver s _ _ within_createMissed).trans (within_settleJobs _).mono) (fun _ => .refl _ s)

theorem within_recreateFrame (s : State) (f : FrameCount) (r : Instant) :
    Within [.scheduler, .mapUnit] s (recreateFrame s f r) :=
  .foldl (fun s (p : StreamId × JobClass) => within_recreateJob s p.1 p.2 f r) _ s

theorem within_recreateFrom (s : State) (c : FrameCount) : Within [.scheduler, .mapUnit] s (recreateFrom s c) := by
  unfold recreateFrom
  exact .ite (fun _ => (within_createOver s _ _ within_recreateFrame).trans (within_settleJobs _).mono)
    (fun _ => (within_settleJobs s).mono)

theorem within_recreatePutOff (s : State) (x : StreamId) (f : FrameCount) :
    Within [.scheduler, .mapUnit] s (recreatePutOff s x f) := by
  unfold recreatePutOff
  split
  · exact .ite (fun _ => within_createJob s _ _ _ _) (fun _ => .refl _ s)
  · exact .refl _ s

theorem within_expire (s : State) : Within [.scheduler] s (expire s) := within_setJobs s _

theorem within_defer (s : State) (f : FrameCount) : Within [.mapUnit] s (defer s f) := by
  unfold defer
  dsimp only
  split
  · exact within_setMaps s _
  split
  · exact .ite (fun _ => .refl _ s) (fun _ => within_setMaps s _)
  · exact within_setMaps s _

theorem within_noteArrival (s : State) (g : FrameCount) : Within [.arrivals] s (noteArrival s g) := by
  intro p hp; cases p <;> first | exact absurd (by decide) hp | simp [sameIn, noteArrival]

theorem within_createOrDefer (s : State) (f : FrameCount) : Within [.scheduler, .mapUnit] s (createOrDefer s f) := by
  unfold createOrDefer
  exact .ite (fun _ => within_createFrame s f _) (fun _ => (within_defer s f).mono)

theorem within_jobsAtPayloadEnd (s : State) (g : FrameCount) (whole : Bool) :
    Within [.scheduler, .mapUnit, .arrivals] s (jobsAtPayloadEnd s g whole) := by
  have h := (within_expire s).mono.trans ((within_noteArrival (expire s) g).mono (qs := [.scheduler, .mapUnit, .arrivals]))
  exact (h.trans (.ite (fun _ => (within_createOrDefer _ _).mono) (fun _ => .refl _ _))).trans (within_settleJobs _).mono

theorem within_restoreStream (s : State) (x : StreamId) : Within [.scheduler] s (restoreStream s x) := by
  unfold restoreStream
  dsimp only
  split
  · exact .ite (fun _ => within_setContext s _ _) (fun _ => (within_dropHolders s _ _).trans (within_setContext _ _ _))
  · exact within_setContext s _ _
  · exact within_setContext s _ _
  · exact .refl _ s

theorem within_undoSpeculation (s : State) (xs : List StreamId) :
    Within [.scheduler, .store, .queue] s (undoSpeculation s xs) := by
  unfold undoSpeculation
  exact ((within_setJobs s _).mono.trans (within_dropSpeculative _).mono).trans
    (.foldl (fun s x => (within_restoreStream s x).mono) _ _)

theorem within_confirmJobs (s : State) : Within [.scheduler] s (confirmJobs s) := by
  intro p hp; cases p <;> first | exact absurd (by decide) hp | simp [sameIn, confirmJobs]

theorem within_stopEngines (s : State) : Within [.scheduler] s (stopEngines s) := by
  intro p hp; cases p <;> first | exact absurd (by decide) hp | simp [sameIn, stopEngines]

theorem within_emptyArrivals (s : State) : Within [.arrivals] s (emptyArrivals s) := by
  intro p hp; cases p <;> first | exact absurd (by decide) hp | simp [sameIn, emptyArrivals]

theorem within_reportIdle (s : State) : Within [.store, .queue, .counters, .mapUnit] s (reportIdle s) := by
  unfold reportIdle
  exact .ite (fun _ => within_offerAnyway s _) (fun _ => .refl _ s)

theorem within_quiesceJobs (s : State) : Within [.scheduler] s (quiesceJobs s) := within_setJobs s _

theorem within_resumeContexts (s : State) : Within [.scheduler] s (resumeContexts s) := by
  intro p hp; cases p <;> first | exact absurd (by decide) hp | simp [sameIn, resumeContexts]

theorem within_wakeLoaders (s : State) (e : EngineId) : Within [.scheduler] s (wakeLoaders s e) :=
  .foldl (fun s w => .ite (fun _ => within_setEngine s w _) (fun _ => .refl _ s)) _ s

theorem within_holdContext (s : State) (e : EngineId) (j : Job) (d : Bool) : Within [.scheduler] s (holdContext s e j d) := by
  unfold holdContext
  exact .ite (fun _ => .refl _ s) (fun _ => (within_setEngine s _ _).trans (within_locate _ _ _))

theorem within_saveDone (s : State) (e : EngineId) (j : Job) : Within [.scheduler] s (saveDone s e j) := by
  unfold saveDone
  refine .trans ?_ (within_takeContext _ e j)
  refine .trans ?_ (within_wakeLoaders _ e)
  split
  · exact within_dropHeld s e _
  · exact .refl _ s

theorem within_transferDone (s : State) (e g : EngineId) (j : Job) : Within [.scheduler] s (transferDone s e g j) := by
  have h := ((within_holdContext s e j (engineOf s g).dirty).trans
    (within_setEngine _ g { engineOf (holdContext s e j (engineOf s g).dirty) g with held := none, dirty := false })).trans
      (within_beginDecoding _ e j)
  unfold transferDone
  dsimp only
  split
  · exact h.trans (within_takeContext _ _ _)
  · exact h

theorem within_completeMove (s : State) (e : EngineId) : Within [.scheduler] s (completeMove s e) := by
  unfold completeMove
  split
  · exact .refl _ s
  split
  · exact .ite (fun _ => .refl _ s) (fun _ => within_saveDone s e _)
  · exact .ite (fun _ => .refl _ s) (fun _ => within_transferDone s e _ _)
  · exact .ite (fun _ => .refl _ s) (fun _ => (within_holdContext s e _ _).trans (within_beginDecoding _ e _))
  · exact .refl _ s

theorem within_dispose (s : State) (j : Job) (o : JobOutcome) :
    Within [.store, .queue, .counters, .mapUnit, .pageMem] s (dispose s j o) := by
  unfold dispose
  exact .ite (fun _ => (within_countLateParcel s).mono) (fun _ => within_makeRecord s j o)

theorem within_offerTrace (s : State) (j : Job) (o : JobOutcome) :
    Within [.store, .queue, .counters, .mapUnit] s (offerTrace s j o) := by
  unfold offerTrace
  exact .ite (fun _ => within_offerAnyway s _) (fun _ => .refl _ s)

theorem within_leaveTable (s : State) (e : EngineId) (j : Job) : Within [.scheduler] s (leaveTable s e j) :=
  (within_setJobs s _).trans (within_setEngine _ _ _)

theorem within_retire (s : State) (e : EngineId) (j : Job) (o : JobOutcome) :
    Within [.scheduler, .store, .queue, .counters, .mapUnit, .pageMem] s (retire s e j o) := by
  have h := ((within_dispose s j o).mono.trans (within_offerTrace _ j o).mono).trans
    ((within_leaveTable (offerTrace (dispose s j o) j o) e j).mono
      (qs := [.scheduler, .store, .queue, .counters, .mapUnit, .pageMem]))
  exact ((h.trans (.ite (fun _ => (within_recreatePutOff _ _ _).mono) (fun _ => .refl _ _))).trans
    (within_reportIdle _).mono).trans (within_settleJobs _).mono

theorem within_advanceContext (s : State) (e : EngineId) (j : Job) (ms : List Nat) :
    Within [.scheduler] s (advanceContext s e j ms) := by
  unfold advanceContext
  dsimp only
  split
  · exact (within_setEngine s _ _).trans (within_setContext _ _ _)
  · exact .ite (fun _ => (within_setEngine s _ _).trans (within_setContext _ _ _))
      (fun _ => (within_setEngine s _ _).trans (within_setContext _ _ _))

theorem within_endDecoding (s : State) (e : EngineId) (d : Decoded) :
    Within [.scheduler, .store, .queue, .counters, .mapUnit, .pageMem] s (endDecoding s e d) := by
  unfold endDecoding
  split
  · exact .ite (fun _ => .refl _ s) (fun _ => ((within_updateJob s _ _ _).mono.trans (within_advanceContext _ _ _ _).mono).trans
      (within_retire _ _ _ _))
  · exact .refl _ s

end Sys2Proof.Machine
end

