-- ==== Sys2Proof/Laws/Memory.lean ====
section
/-!
SUPPORT. Page memory (R99): every operation keeps the canonical form, and what one byte reads as after a write.
-/

namespace Sys2Proof.Machine

-- one theorem at a time: elaborated side by side, they would hold more threads than the check allows
set_option Elab.async false

theorem mem_cellsFrom {a : Nat} {bytes : List Byte} {c : Host.Cell} (h : c ∈ cellsFrom a bytes) :
    a ≤ c.1 ∧ c.1 < a + bytes.length := by
  induction bytes generalizing a with
  | nil => cases h
  | cons b bs ih =>
    simp only [cellsFrom, List.mem_cons, List.length_cons] at h ⊢
    rcases h with rfl | h
    · exact ⟨Nat.le_refl a, by omega⟩
    · have := ih h; omega

theorem cellsFrom_rising (a : Nat) (bytes : List Byte) : (cellsFrom a bytes).Pairwise (fun x y => x.1 < y.1) := by
  induction bytes generalizing a with
  | nil => exact .nil
  | cons b bs ih =>
    refine .cons (fun c hc => ?_) (ih (a + 1))
    have := (mem_cellsFrom hc).1
    show a < c.1
    omega

/-- The cells of a write stand between those kept below it and those kept above it. -/
theorem writeBytes_wf {m : Memory} (h : m.wf) (a : Nat) (bytes : List Byte) : (writeBytes m a bytes).wf := by
  unfold writeBytes
  refine ⟨?_, ?_⟩
  · refine List.pairwise_append.2 ⟨List.pairwise_append.2 ⟨h.1.filter _, (cellsFrom_rising a bytes).filter _, ?_⟩,
      h.1.filter _, ?_⟩
    · intro x hx y hy
      have hx := (List.mem_filter.1 hx).2
      have := mem_cellsFrom (List.mem_filter.1 hy).1
      simp only [decide_eq_true_eq] at hx
      omega
    · intro x hx y hy
      have hy := (List.mem_filter.1 hy).2
      simp only [decide_eq_true_eq] at hy
      rcases List.mem_append.1 hx with hx | hx
      · have hx := (List.mem_filter.1 hx).2
        simp only [decide_eq_true_eq] at hx
        omega
      · have := mem_cellsFrom (List.mem_filter.1 hx).1
        omega
  · intro c hc
    rcases List.mem_append.1 hc with hc | hc
    · rcases List.mem_append.1 hc with hc | hc
      · exact h.2 c (List.mem_filter.1 hc).1
      · simpa using (List.mem_filter.1 hc).2
    · exact h.2 c (List.mem_filter.1 hc).1

/-- Filling pages keeps the canonical form. -/
theorem writePages_wf {m : Memory} (h : m.wf) (pages : List (Fin 256)) (bytes : List Byte) :
    (writePages m pages bytes).wf := by
  induction pages generalizing m bytes with
  | nil => exact h
  | cons p ps ih => exact ih (writeBytes_wf h _ _) _

/-- A copy written to its pages keeps the canonical form: `fillRecord` is the one meaning that writes page memory. -/
theorem fillRecord_wf {s : State} (h : s.pst.pageMem.wf) (j : Job) (o : JobOutcome) :
    (fillRecord s j o).pst.pageMem.wf := writePages_wf h _ _

theorem reset_memory_wf : State.reset.pst.pageMem.wf := by decide

/-! ### Reading one byte -/

theorem find?_keyed_filter_self {m : Memory} {p : Host.Cell → Bool} {a : Nat} (h : ∀ c : Host.Cell, c.1 = a → p c = true) :
    (m.filter p).find? (fun c => c.1 == a) = m.find? (fun c => c.1 == a) := by
  induction m with
  | nil => rfl
  | cons c cs ih =>
    by_cases hc : c.1 = a
    · simp [h c hc, hc]
    · by_cases hp : p c <;> simp [hp, hc, ih]

theorem find?_keyed_filter_none {m : Memory} {p : Host.Cell → Bool} {a : Nat} (h : ∀ c : Host.Cell, c.1 = a → p c = false) :
    (m.filter p).find? (fun c => c.1 == a) = none := by
  simp only [List.find?_eq_none, List.mem_filter, beq_iff_eq]
  intro c hc hca
  simp [h c hca] at hc

/-- The cells of a write that the memory keeps, looked up at the address of byte `k`. -/
theorem find?_cellsFrom_kept {a : Nat} {bytes : List Byte} {k : Nat} (hk : k < bytes.length) :
    ((cellsFrom a bytes).filter (fun c => decide (c.2 ≠ Config.blankPageByte))).find? (fun c => c.1 == a + k) =
      if bytes[k] = Config.blankPageByte then none else some (a + k, bytes[k]) := by
  induction bytes generalizing a k with
  | nil => simp at hk
  | cons b bs ih =>
    cases k with
    | zero =>
      have hrest : ((cellsFrom (a + 1) bs).filter (fun c => decide (c.2 ≠ Config.blankPageByte))).find?
          (fun c => c.1 == a) = none := by
        simp only [List.find?_eq_none, beq_iff_eq, List.mem_filter]
        intro c hc hca
        have := mem_cellsFrom hc.1
        omega
      rw [cellsFrom, List.filter_cons]
      by_cases hb : b = Config.blankPageByte
      · rw [if_neg (by simp [hb])]; simpa [hb] using hrest
      · rw [if_pos (by simp [hb])]; simp [hb]
    | succ k =>
      have hk' : k < bs.length := by simpa using hk
      have := ih (a := a + 1) hk'
      have ha : a + 1 + k = a + (k + 1) := by omega
      rw [ha] at this
      rw [cellsFrom, List.filter_cons, List.getElem_cons_succ, ← this]
      by_cases hb : b = Config.blankPageByte
      · rw [if_neg (by simp [hb])]
      · rw [if_pos (by simp [hb]), List.find?_cons_of_neg (by simp)]

/-- A byte written reads back. -/
theorem readByte_writeBytes_same (m : Memory) (a : Nat) (bytes : List Byte) (k : Nat) (hk : k < bytes.length) :
    readByte (writeBytes m a bytes) (a + k) = bytes[k] := by
  unfold readByte writeBytes
  rw [List.find?_append, List.find?_append, find?_cellsFrom_kept hk,
    find?_keyed_filter_none (p := fun c => decide (c.1 < a)) (fun c hc => by simp [hc]),
    find?_keyed_filter_none (p := fun c => decide (a + bytes.length ≤ c.1)) (fun c hc => by simp [hc]; omega)]
  by_cases hb : bytes[k] = Config.blankPageByte <;> simp [hb]

/-- Outside the bytes written, a byte reads as before. -/
theorem readByte_writeBytes_other (m : Memory) (a : Nat) (bytes : List Byte) (x : Nat)
    (h : x < a ∨ a + bytes.length ≤ x) : readByte (writeBytes m a bytes) x = readByte m x := by
  have hmid : ((cellsFrom a bytes).filter (fun c => decide (c.2 ≠ Config.blankPageByte))).find? (fun c => c.1 == x) = none := by
    simp only [List.find?_eq_none, beq_iff_eq, List.mem_filter]
    intro c hc hcx
    have := mem_cellsFrom hc.1
    omega
  unfold readByte writeBytes
  rw [List.find?_append, List.find?_append, hmid]
  rcases h with h | h
  · rw [find?_keyed_filter_self (p := fun c => decide (c.1 < a)) (fun c hc => by simpa [hc] using h),
      find?_keyed_filter_none (p := fun c => decide (a + bytes.length ≤ c.1)) (fun c hc => by simp [hc]; omega)]
    simp
  · rw [find?_keyed_filter_none (p := fun c => decide (c.1 < a)) (fun c hc => by simp [hc]; omega),
      find?_keyed_filter_self (p := fun c => decide (a + bytes.length ≤ c.1)) (fun c hc => by simpa [hc] using h)]
    simp

end Sys2Proof.Machine
end

