-- ==== Sys2Proof/Laws/PerInstr.lean ====
section
/-!
SUPPORT. Laws of commands as syntax, one lemma per constructor. Family `WholeMessage`: the message a well-formed command
carries began no later than the command's instant and holds as many body bytes as its header says (R115, R118).
-/

namespace Sys2Proof.Laws.WholeMessage

-- one theorem at a time: elaborated side by side, they would hold more threads than the check allows
set_option Elab.async false

open Sys2Proof.Machine

/-- The message heard that a command carries, if it carries one. -/
def carried : Instr → Option LinkMessage
  | .parcel _ (.heard m) | .gap _ (.heard m) | .status _ (.heard m) | .map _ (.heard m) | .trace _ (.heard m) => some m
  | .drained _ (.heard m) | .quiesced _ (.heard m) => some m
  | .subscribe _ m | .release _ m | .ensembleChange _ m | .restart _ m | .quiesce _ m | .resume _ m => some m
  | .unknownKindMessage _ _ m => some m
  | _ => none

/-- The message a well-formed command carries is whole. -/
def Statement (i : Instr) : Prop :=
  i.wellFormed = true → ∀ m, carried i = some m → m.start ≤ i.instant ∧ bodyWhole m = true

theorem of_messageWhole {t : Instant} {m : LinkMessage} (h : messageWhole t m = true) :
    m.start ≤ t ∧ bodyWhole m = true := by
  simpa [messageWhole] using h

theorem pinResetAssert (t : Instant) : Statement (.pinResetAssert t) := fun _ _ hk => by cases hk

theorem pinResetRelease (t : Instant) (straps : Straps) : Statement (.pinResetRelease t straps) :=
  fun _ _ hk => by cases hk

theorem equaliserAutoZero (t : Instant) (lane : LaneId) (pol : Polarity) : Statement (.equaliserAutoZero t lane pol) :=
  fun _ _ hk => by cases hk

theorem lockReport (t : Instant) (lane : LaneId) : Statement (.lockReport t lane) := fun _ _ hk => by cases hk

theorem acquireTimeout (t : Instant) (lane : LaneId) : Statement (.acquireTimeout t lane) := fun _ _ hk => by cases hk

theorem wordBoundaryFound (t : Instant) (lane : LaneId) : Statement (.wordBoundaryFound t lane) :=
  fun _ _ hk => by cases hk

theorem lossOfLock (t : Instant) (lane : LaneId) : Statement (.lossOfLock t lane) := fun _ _ hk => by cases hk

theorem oneShotTuneEnd (t : Instant) (lane : LaneId) : Statement (.oneShotTuneEnd t lane) := fun _ _ hk => by cases hk

theorem cellWord (t : Instant) (lane : LaneId) (area : Area) (cells : CellWord) (block : ControlBlock) :
    Statement (.cellWord t lane area cells block) :=
  fun _ _ hk => by cases hk

theorem frameStartMarker (t : Instant) (lane : LaneId) : Statement (.frameStartMarker t lane) :=
  fun _ _ hk => by cases hk

theorem frontEndStatus (t : Instant) (lane : LaneId) (present : Bool) (quality : Byte) :
    Statement (.frontEndStatus t lane present quality) :=
  fun _ _ hk => by cases hk

theorem idle (t : Instant) (lane : LaneId) : Statement (.idle t lane) := fun _ _ hk => by cases hk

theorem corruptControlWord (t : Instant) (lane : LaneId) : Statement (.corruptControlWord t lane) :=
  fun _ _ hk => by cases hk

theorem fourthCorruptControlWord (t : Instant) (lane : LaneId) : Statement (.fourthCorruptControlWord t lane) :=
  fun _ _ hk => by cases hk

theorem markerWindowClose (t : Instant) : Statement (.markerWindowClose t) := fun _ _ hk => by cases hk

theorem flywheelPayloadEnd (t : Instant) : Statement (.flywheelPayloadEnd t) := fun _ _ hk => by cases hk

theorem entryToLost (t : Instant) : Statement (.entryToLost t) := fun _ _ hk => by cases hk

theorem releaseInstant (t : Instant) (frame : FrameCount) : Statement (.releaseInstant t frame) :=
  fun _ _ hk => by cases hk

theorem contextMoveComplete (t : Instant) (engine : EngineId) : Statement (.contextMoveComplete t engine) :=
  fun _ _ hk => by cases hk

theorem decodeEnd (t : Instant) (engine : EngineId) (found : Decoded) : Statement (.decodeEnd t engine found) :=
  fun _ _ hk => by cases hk

theorem offerInstant (t : Instant) (stream : StreamId) (frame : FrameCount) :
    Statement (.offerInstant t stream frame) :=
  fun _ _ hk => by cases hk

theorem discardInstant (t : Instant) (stream : StreamId) (frame : FrameCount) :
    Statement (.discardInstant t stream frame) :=
  fun _ _ hk => by cases hk

theorem statusTimer (t : Instant) : Statement (.statusTimer t) := fun _ _ hk => by cases hk

theorem noticeHoldOff (t : Instant) : Statement (.noticeHoldOff t) := fun _ _ hk => by cases hk

theorem deadline (t : Instant) (stream : StreamId) : Statement (.deadline t stream) := fun _ _ hk => by cases hk

theorem contention (t : Instant) (rivals : List ArbField) : Statement (.contention t rivals) :=
  fun _ _ hk => by cases hk

theorem attemptEnd (t : Instant) (rejected : Bool) : Statement (.attemptEnd t rejected) := fun _ _ hk => by cases hk

theorem reject (t : Instant) (start : Instant) (bits : List Bool) : Statement (.reject t start bits) :=
  fun _ _ hk => by cases hk

theorem duplicateEvent (t : Instant) (how : DuplicateSource) : Statement (.duplicateEvent t how) :=
  fun _ _ hk => by cases hk

theorem lineStuck (t : Instant) : Statement (.lineStuck t) := fun _ _ hk => by cases hk

theorem lineGoesRecessive (t : Instant) : Statement (.lineGoesRecessive t) := fun _ _ hk => by cases hk

theorem recoveryTimer (t : Instant) : Statement (.recoveryTimer t) := fun _ _ hk => by cases hk

theorem joinTimer (t : Instant) : Statement (.joinTimer t) := fun _ _ hk => by cases hk

theorem peerAging (t : Instant) (peer : Station) : Statement (.peerAging t peer) := fun _ _ hk => by cases hk

theorem parcel (t : Instant) (m : Incoming) : Statement (.parcel t m) := by
  intro hw k hk
  cases m with
  | own => cases hk
  | heard m => cases hk; exact of_messageWhole hw

theorem gap (t : Instant) (m : Incoming) : Statement (.gap t m) := by
  intro hw k hk
  cases m with
  | own => cases hk
  | heard m => cases hk; exact of_messageWhole hw

theorem status (t : Instant) (m : Incoming) : Statement (.status t m) := by
  intro hw k hk
  cases m with
  | own => cases hk
  | heard m => cases hk; exact of_messageWhole hw

theorem map (t : Instant) (m : Incoming) : Statement (.map t m) := by
  intro hw k hk
  cases m with
  | own => cases hk
  | heard m => cases hk; exact of_messageWhole hw

theorem trace (t : Instant) (m : Incoming) : Statement (.trace t m) := by
  intro hw k hk
  cases m with
  | own => cases hk
  | heard m => cases hk; exact of_messageWhole hw

theorem drained (t : Instant) (m : Incoming) : Statement (.drained t m) := by
  intro hw k hk
  cases m with
  | own => cases hk
  | heard m => cases hk; exact of_messageWhole hw

theorem quiesced (t : Instant) (m : Incoming) : Statement (.quiesced t m) := by
  intro hw k hk
  cases m with
  | own => cases hk
  | heard m => cases hk; exact of_messageWhole hw

theorem subscribe (t : Instant) (m : LinkMessage) : Statement (.subscribe t m) := by
  intro hw k hk
  cases hk
  exact of_messageWhole hw

theorem release (t : Instant) (m : LinkMessage) : Statement (.release t m) := by
  intro hw k hk
  cases hk
  exact of_messageWhole hw

theorem ensembleChange (t : Instant) (m : LinkMessage) : Statement (.ensembleChange t m) := by
  intro hw k hk
  cases hk
  exact of_messageWhole hw

theorem restart (t : Instant) (m : LinkMessage) : Statement (.restart t m) := by
  intro hw k hk
  cases hk
  exact of_messageWhole hw

theorem quiesce (t : Instant) (m : LinkMessage) : Statement (.quiesce t m) := by
  intro hw k hk
  cases hk
  exact of_messageWhole hw

theorem resume (t : Instant) (m : LinkMessage) : Statement (.resume t m) := by
  intro hw k hk
  cases hk
  exact of_messageWhole hw

theorem unknownKindMessage (t : Instant) (code : Byte) (m : LinkMessage) :
    Statement (.unknownKindMessage t code m) := by
  intro hw k hk
  cases hk
  exact of_messageWhole (Bool.and_eq_true _ _ ▸ hw).1

end Sys2Proof.Laws.WholeMessage
end

