-- ==== Sys2Proof/Laws/UnitFrames.lean ====
section
/-!
SUPPORT. The frames of the operations of the map unit, the frame tracker, the link controller and the mode controller.
-/

namespace Sys2Proof.Machine

-- one theorem at a time: elaborated side by side, they would hold more threads than the check allows
set_option Elab.async false

/-! ### Map unit -/

theorem within_trimMarks (s : State) : Within [.mapUnit] s (trimMarks s) := within_setMaps s _

theorem within_mapChanged (s : State) :
    Within [.mapUnit, .table, .claims, .store, .queue, .counters, .cursors] s (mapChanged s) :=
  ((within_trimMarks s).mono.trans (within_classReview _).mono).trans
    ((within_claimReview _).mono.trans (within_reviewCursors _).mono)

theorem within_currentReady (s : State) : Within [.scheduler, .mapUnit] s (currentReady s) := by
  unfold currentReady
  split
  · exact .ite (fun _ => (within_setCurrent s _).mono.trans (within_catchUp _ _)) (fun _ => .refl _ s)
  · exact .refl _ s

theorem within_nextReady (s : State) : Within [.scheduler, .mapUnit] s (nextReady s) := by
  unfold nextReady
  split
  · exact .ite (fun _ => (within_setNext s _).mono.trans (within_catchUp _ _)) (fun _ => .refl _ s)
  · exact .refl _ s

/-- The parts that a change to the maps may change. -/
abbrev mapping : List Part := [.scheduler, .mapUnit, .store, .queue, .counters, .cursors, .table, .claims]

theorem within_settleMaps (s : State) : Within mapping s (settleMaps s) :=
  ((within_mapChanged s).mono.trans (within_currentReady _).mono).trans (within_nextReady _).mono

theorem within_confirm (s : State) : Within mapping s (confirm s) :=
  ((within_setMaps s _).mono.trans (within_confirmJobs _).mono).trans
    ((within_confirmRecords _).mono.trans (within_settleMaps _))

theorem within_backOut (s : State) (h : Settlement) : Within mapping s (backOut s h) := by
  unfold backOut
  split
  · exact ((within_undoSpeculation s _).mono.trans (within_setMaps _ _).mono).trans
      ((within_recreateFrom _ _).mono.trans (within_settleMaps _))
  · exact (within_setNext s _).mono.trans (within_settleMaps _)

theorem within_weighRecord (s : State) (r : FrameRecord) : Within mapping s (weighRecord s r) := by
  unfold weighRecord
  exact .ite (fun _ => .ite (fun _ => within_confirm s)
    (fun _ => .ite (fun _ => within_backOut s _) (fun _ => within_backOut s _))) (fun _ => .refl _ s)

theorem within_weighStatus (s : State) (p : Peer) : Within mapping s (weighStatus s p) := by
  unfold weighStatus
  exact .ite (fun _ => .ite (fun _ => within_confirm s) (fun _ => .ite
    (fun _ => .ite (fun _ => within_backOut s _) (fun _ => within_backOut s _)) (fun _ => .refl _ s))) (fun _ => .refl _ s)

theorem within_takeCurrentFields (s : State) (r : FrameRecord) : Within mapping s (takeCurrentFields s r).1 := by
  have h := fun m => (within_setCurrent s m).mono.trans (within_settleMaps (setCurrent s m))
  unfold takeCurrentFields
  dsimp only
  split
  · exact h _
  split
  · split
    · exact .refl _ s
    split
    · exact (within_countControlError s).mono
    · exact h _
  split
  · exact (within_countControlError s).mono
  · exact h _

theorem within_renewNext (s : State) (m : MuxMap) : Within mapping s (renewNext s m) :=
  (((Within.ite (fun _ => within_backOut s _) (fun _ => .refl _ s)).trans (within_setNext _ m).mono)).trans
    (within_settleMaps _)

theorem within_takePendingFields (s : State) (r : FrameRecord) : Within mapping s (takePendingFields s r) := by
  have h := fun m => (within_setNext s m).mono.trans (within_settleMaps (setNext s m))
  unfold takePendingFields
  dsimp only
  refine .ite (fun _ => .ite (fun _ => h _) (fun _ => .ite (fun _ => .ite (fun _ => .ite (fun _ => .refl _ s) (fun _ => ?_))
    (fun _ => .ite (fun _ => within_backOut s _) (fun _ => h _))) (fun _ => within_renewNext s _)))
    (fun _ => .ite (fun _ => .refl _ s) (fun _ => within_backOut s _))
  exact .ite (fun _ => (within_countControlError s).mono) (fun _ => h _)

theorem within_mapFrameRecord (s : State) (r : FrameRecord) : Within mapping s (mapFrameRecord s r) := by
  have h := (within_weighRecord s r).trans (within_takeCurrentFields _ r)
  unfold mapFrameRecord
  exact .ite (fun _ => h.trans (within_takePendingFields _ r)) (fun _ => h)

theorem within_settleIf (due : Bool) (s : State) : Within mapping s (settleIf due s) := by
  unfold settleIf
  exact .ite (fun _ => within_settleMaps s) (fun _ => .refl _ s)

theorem within_mapStreamRecord (s : State) (tag : ChangeCount) (e : RawEntry) :
    Within mapping s (mapStreamRecord s tag e) := by
  have hc : ∀ c : Prop, [Decidable c] → Within mapping s (if c then countControlError s else s) := fun c _ =>
    .ite (fun _ => (within_countControlError s).mono) (fun _ => .refl _ s)
  unfold mapStreamRecord
  dsimp only
  refine .ite (fun _ => ((hc _).trans (within_setCurrent _ _).mono).trans (within_settleIf _ _)) (fun _ => .ite (fun _ => .ite
    (fun _ => (hc _).trans (within_backOut _ _)) (fun _ => ((hc _).trans (within_setNext _ _).mono).trans (within_settleIf _ _)))
    (fun _ => .refl _ s))

theorem within_raiseMarks (s : State) (p : Peer) : Within [.store, .queue, .counters, .mapUnit] s (raiseMarks s p) := by
  unfold raiseMarks
  exact .ite (fun _ => (within_setMaps s _).mono.trans (within_testNotice _)) (fun _ => .refl _ s)

theorem within_adoptNext (s : State) (n : MapNotice) (c : FrameCount) : Within mapping s (adoptNext s n c) := by
  unfold adoptNext
  exact .ite (fun _ => .ite (fun _ => within_backOut s _) (fun _ => (within_setNext s _).mono.trans (within_settleMaps _)))
    (fun _ => .refl _ s)

theorem within_adoptCurrent (s : State) (n : MapNotice) : Within mapping s (adoptCurrent s n) := by
  unfold adoptCurrent
  exact .ite (fun _ => .ite (fun _ => (within_setCurrent s _).mono.trans (within_backOut _ _))
    (fun _ => (within_setCurrent s _).mono.trans (within_settleMaps _))) (fun _ => .refl _ s)

theorem within_hearNotice (s : State) (n : MapNotice) : Within mapping s (hearNotice s n) := by
  unfold hearNotice
  dsimp only
  split
  · exact (within_countControlError s).mono
  split
  · exact .refl _ s
  split
  · split
    · exact .refl _ s
    · split
      · exact within_adoptNext s n _
      · exact .refl _ s
  split
  · exact within_adoptNext s n _
  · exact within_adoptCurrent s n

theorem within_releaseOutgoing (s : State) (g : FrameCount) : Within [.mapUnit] s (releaseOutgoing s g) := by
  unfold releaseOutgoing
  split
  · exact .ite (fun _ => within_setMaps s _) (fun _ => .refl _ s)
  · exact .refl _ s

/-! ### Frame tracker -/

theorem within_offerNotice (s : State) (k : MsgKind) : Within [.store, .queue, .counters, .mapUnit] s (offerNotice s k) :=
  within_offerAnyway s _

theorem within_cadencePoint (s : State) : Within [.store, .queue, .counters, .mapUnit] s (cadencePoint s) :=
  (Within.ite (fun _ => within_offerNotice s _) (fun _ => .refl _ s)).trans
    (.ite (fun _ => within_offerNotice _ _) (fun _ => .ite (fun _ => within_offerNotice _ _) (fun _ => .refl _ _)))

/-- The parts that a frame start may change. -/
abbrev starting : List Part := [.claims, .store, .queue, .counters, .mapUnit, .cursors, .tracker]

theorem within_noteStart (s : State) : Within [.tracker] s (noteStart s) := within_setTracker s _

theorem within_frameStart (s : State) : Within starting s (frameStart s) :=
  ((((within_noteStart s).mono.trans (within_openClaims _).mono).trans (within_cadencePoint _).mono).trans
    ((within_resync _ s.ftr.count).mono.trans (within_repeatLapsed _).mono)).trans
      ((within_ageOut _ s.ftr.count).mono.trans (within_releaseOutgoing _ s.ftr.count).mono)

/-- The parts that a payload end may change. -/
abbrev filing : List Part := [.tracker, .slots, .scheduler, .mapUnit, .arrivals]

theorem within_issuePayloadEnd (s : State) (received : Bool) : Within filing s (issuePayloadEnd s received) :=
  ((within_setIlm s _).mono.trans (within_setTracker _ _).mono).trans (within_jobsAtPayloadEnd _ _ _).mono

theorem within_failTrial (s : State) (f : Frame) : Within [.tracker] s (failTrial s f) := within_setTracker s _

theorem within_failIfUnnamed (s : State) : Within [.tracker] s (failIfUnnamed s) := by
  unfold failIfUnnamed
  split
  · exact .ite (fun _ => within_failTrial s _) (fun _ => .refl _ s)
  · exact .refl _ s

theorem within_clearFill (s : State) : Within [.slots] s (clearFill s) := within_setIlm s _

theorem within_finishPayload (s : State) (f : Frame) : Within filing s (finishPayload s f) :=
  (within_setFrame s _).mono.trans (.ite (fun _ => within_issuePayloadEnd _ _) (fun _ => (within_clearFill _).mono))

theorem within_endPayload (s : State) : Within filing s (endPayload s) := by
  unfold endPayload
  split
  · exact .refl _ s
  split
  · exact .refl _ s
  dsimp only
  split
  · exact (within_failIfUnnamed s).mono
  · exact (within_failIfUnnamed s).mono.trans (within_finishPayload _ _)

theorem within_endControl (s : State) : Within [.tracker] s (endControl s) := by
  unfold endControl
  split
  · exact .refl _ s
  · exact .ite (fun _ => .refl _ s) (fun _ => (within_setFrame s _).trans (within_failIfUnnamed _))

theorem within_endFrame (s : State) : Within filing s (endFrame s) :=
  (within_endControl s).mono.trans (within_endPayload _)

theorem within_emptySlots (s : State) : Within [.slots] s (emptySlots s) := within_setIlm s _

theorem within_eraseSlots (s : State) : Within [.slots] s (eraseSlots s) := within_setIlm s _

theorem within_leaveFrames (s : State) (x : SyncState) : Within [.tracker] s (leaveFrames s x) := within_setTracker s _

/-- The parts that entry to LOST may change. -/
abbrev losing : List Part := [.tracker, .slots, .mapUnit, .arrivals, .releaseList, .claims, .statusTimer]

theorem within_emptyReleaseList (s : State) : Within [.releaseList] s (emptyReleaseList s) := by
  intro p hp; cases p <;> first | exact absurd (by decide) hp | simp [sameIn, emptyReleaseList]

theorem within_enterLost (s : State) : Within losing s (enterLost s) :=
  (((within_leaveFrames s .lost).mono.trans (within_emptySlots _).mono).trans
    ((within_setTracker _ _).mono.trans (within_setMaps _ _).mono)).trans
      (((within_emptyArrivals _).mono.trans (within_emptyReleaseList _).mono).trans
        ((within_setStatusTimer _ _).mono.trans (within_settleClaims _).mono))

theorem within_returnToSearch (s : State) : Within [.tracker, .slots] s (returnToSearch s) :=
  (within_leaveFrames s _).mono.trans (within_clearFill _).mono

theorem within_abandonWork (s : State) :
    Within [.slots, .scheduler, .arrivals, .store, .queue, .counters] s (abandonWork s) :=
  (((within_eraseSlots s).mono.trans (within_stopEngines _).mono).trans
    ((within_emptyArrivals _).mono.trans (within_emptyStore _).mono)).trans (within_countSlip _).mono

/-- The parts that a slip may change. -/
abbrev slipping : List Part :=
  [.slots, .scheduler, .arrivals, .store, .queue, .counters, .tracker, .mapUnit, .cursors, .releaseList]

theorem within_slip (s : State) (g : FrameCount) : Within slipping s (slip s g) := by
  have h : Within slipping s (slipDelivery (dropChangeover (adoptCount (abandonWork s) g))) :=
    ((within_abandonWork s).mono.trans (within_setTracker _ _).mono).trans
      ((within_setMaps _ _).mono.trans (within_slipDelivery _).mono)
  exact .ite (fun _ => h) (fun _ => h.trans (within_reportIdle _).mono)

theorem within_lock (s : State) (r : FrameRecord) :
    Within [.claims, .store, .queue, .counters, .mapUnit, .cursors, .tracker, .statusTimer] s (lock s r) :=
  ((within_setTracker s _).mono.trans (within_setStatusTimer _ _).mono).trans (within_frameStart _).mono

theorem within_endReception (s : State) : Within [.tracker, .slots] s (endReception s) := by
  unfold endReception
  split
  · exact (within_setTracker s _).mono
  · exact .ite (fun _ => (within_setTracker s _).mono) (fun _ => (within_setTracker s _).mono.trans (within_clearFill _).mono)

/-- The parts that what a control block carries may change. -/
abbrev recording : List Part :=
  [.slots, .scheduler, .arrivals, .store, .queue, .counters, .tracker, .mapUnit, .cursors, .releaseList, .claims,
    .statusTimer, .table]

theorem within_trackRecord (s : State) (f : Frame) (r : FrameRecord) : Within recording s (trackRecord s f r) := by
  unfold trackRecord
  split
  · exact .ite (fun _ => (within_lock s r).mono) (fun _ => .refl _ s)
  · exact .ite (fun _ => (within_endReception s).mono) (fun _ => .ite (fun _ => .refl _ s) (fun _ => (within_slip s _).mono))
  · exact .ite (fun _ => .refl _ s) (fun _ => .ite (fun _ => (within_failTrial s f).mono)
      (fun _ => .ite (fun _ => (within_setTracker s _).mono) (fun _ => (within_slip s _).mono)))
  · exact .refl _ s
  · exact .refl _ s

theorem within_passToMap (s : State) (r : FrameRecord) : Within mapping s (passToMap s r) := by
  unfold passToMap
  exact .ite (fun _ => within_mapFrameRecord s r) (fun _ => .refl _ s)

theorem within_takeFrameRecord (s : State) (r : FrameRecord) : Within recording s (takeFrameRecord s r) := by
  unfold takeFrameRecord
  split
  · exact .refl _ s
  · exact .ite (fun _ => .refl _ s) (fun _ => ((within_setFrame s _).mono.trans (within_trackRecord _ _ r)).trans
      (within_passToMap _ r).mono)

theorem within_takeBlock (s : State) (b : ControlBlock) : Within recording s (takeBlock s b) := by
  have hc := (within_countControlError s).mono (qs := recording)
  unfold takeBlock
  split
  · exact hc
  · exact hc
  · exact .refl _ s
  · exact .ite (fun _ => within_takeFrameRecord s _) (fun _ => hc)
  · exact .ite (fun _ => hc) (fun _ => .ite (fun _ => (within_mapStreamRecord s _ _).mono) (fun _ => .refl _ s))

theorem within_blockDone (s : State) (c : ControlPath) (kept : Bool) (w : CellWord) (b : ControlBlock) :
    Within recording s (blockDone s c kept w b) := by
  unfold blockDone
  exact .ite (fun _ => within_takeBlock s b) (fun _ => .refl _ s)

theorem within_countControlWord (s : State) (kept : Bool) (w : CellWord) (b : ControlBlock) :
    Within recording s (countControlWord s kept w b) := by
  have h := (within_setControl s (wordCounted s.ftr.control kept w)).mono.trans
    (within_blockDone (setControl s (wordCounted s.ftr.control kept w)) s.ftr.control kept w b)
  unfold countControlWord
  exact .ite (fun _ => .refl _ s) (fun _ => .ite (fun _ => h.trans (within_endControl _).mono) (fun _ => h))

theorem within_takeControlWord (s : State) (w : CellWord) (b : ControlBlock) :
    Within recording s (takeControlWord s w b) := by
  unfold takeControlWord
  dsimp only
  split
  · exact .refl _ s
  · exact within_countControlWord s _ w b
  · exact .ite (fun _ => (within_setControl s _).mono) (fun _ => .refl _ s)

theorem within_installFrame (s : State) (f : Frame) (m : Bool) : Within [.tracker, .slots] s (installFrame s f m) :=
  (within_setTracker s _).mono.trans (.ite (fun _ => (within_setIlm _ _).mono) (fun _ => .refl _ _))

theorem within_takeHeld (s : State) (h : Option (CellWord × ControlBlock)) : Within recording s (takeHeld s h) := by
  cases h
  · exact within_countControlWord s _ _ _
  · exact within_takeControlWord s _ _

theorem within_passHeld (s : State) (held : List (Option (CellWord × ControlBlock))) :
    Within recording s (passHeld s held) :=
  .foldl within_takeHeld _ s

theorem within_beginUnnamed (s : State) : Within recording s (beginUnnamed s) :=
  (((within_setTracker s _).mono.trans (within_installFrame _ _ _).mono).trans (within_setMarker _ _).mono).trans
    (within_passHeld _ _)

theorem within_beginNamed (s : State) (k : FrameKind) : Within recording s (beginNamed s k) :=
  (((within_advanceCount s).mono.trans (within_installFrame _ _ _).mono).trans
    ((within_frameStart _).mono.trans (within_setMarker _ _).mono)).trans (within_passHeld _ _)

theorem within_markerArrival (s : State) : Within recording s (markerArrival s) := by
  have he := (within_endFrame s).mono (qs := recording)
  unfold markerArrival
  split
  · exact within_beginUnnamed s
  · exact within_beginUnnamed s
  · exact .ite (fun _ => he.trans (within_beginUnnamed _)) (fun _ => .refl _ s)
  · exact .ite (fun _ => he.trans (within_beginNamed _ _)) (fun _ => .refl _ s)
  · exact .ite (fun _ => .refl _ s) (fun _ => .ite
      (fun _ => (he.trans (within_enterLost _).mono).trans (within_beginUnnamed _)) (fun _ => he.trans (within_beginNamed _ _)))

theorem within_controlMarker (s : State) : Within [.tracker] s (controlMarker s) := within_setControl s _

theorem within_beginFlywheel (s : State) (t : Instant) : Within recording s (beginFlywheel s t) := by
  unfold beginFlywheel
  refine .trans ?_ (within_setMarker _ _).mono
  refine .trans ?_ (within_frameStart _).mono
  refine .trans ?_ (within_installFrame _ _ _).mono
  exact (within_setTracker s _).mono.trans (within_advanceCount _).mono

theorem within_closeWindow (s : State) (t : Instant) : Within recording s (closeWindow s t) := by
  have he := (within_endFrame s).mono (qs := recording)
  unfold closeWindow
  split
  · exact .refl _ s
  · exact .refl _ s
  · exact (within_returnToSearch s).mono
  · exact (he.trans (within_setTracker _ _).mono).trans (within_beginFlywheel _ t)
  · exact .ite (fun _ => .refl _ s) (fun _ => .ite (fun _ => he.trans (within_enterLost _).mono)
      (fun _ => he.trans (within_beginFlywheel _ t)))

theorem within_gather (s : State) (w : CellWord) : Within [.slots] s (gather s w) := within_setIlm s _

theorem within_takePayloadWord (s : State) (w : CellWord) : Within filing s (takePayloadWord s w) := by
  unfold takePayloadWord
  split
  · exact .refl _ s
  · have h := fun f => (within_setFrame s f).mono.trans ((within_gather (setFrame s f) w).mono (qs := filing))
    refine .ite (fun _ => .refl _ s) (fun _ => .ite (fun _ => h _) (fun _ => ?_))
    exact ((h _).trans (within_setTracker _ _).mono).trans (within_endPayload _)

theorem within_payloadLaneGone (s : State) : Within [.tracker, .slots] s (payloadLaneGone s) := by
  unfold payloadLaneGone
  split
  · exact within_returnToSearch s
  · exact within_endReception s
  all_goals exact .refl _ s

theorem within_laneGone (s : State) (i : LaneId) : Within [.tracker, .slots] s (laneGone s i) := by
  unfold laneGone
  exact .ite (fun _ => (within_endControl s).mono.trans (within_payloadLaneGone _)) (fun _ => .ite
    (fun _ => within_payloadLaneGone s) (fun _ => (within_endControl s).mono.trans (within_setControl _ _).mono))

/-! ### Link controller -/

theorem within_contend (s : State) (rivals : List ArbField) : Within [.line, .queue] s (contend s rivals) := by
  unfold contend
  refine .ite (fun _ => .refl _ s) (fun _ => ?_)
  split
  · exact .refl _ s
  · exact .ite (fun _ => within_setLink s _) (fun _ => .refl _ s)

theorem within_clearQueue (s : State) (keep : Entry → Bool) : Within [.store, .queue] s (clearQueue s keep) :=
  (within_withdraw s _).mono.trans (.foldl within_tellStore _ _)

theorem within_enterQuiesced (s : State) : Within [.mode, .store, .queue, .claims] s (enterQuiesced s) :=
  ((within_setMode s _).mono.trans (within_clearQueue _ _).mono).trans (within_settleClaims _).mono

theorem within_leaveDraining (s : State) (m : Mode) : Within [.mode] s (leaveDraining s m) := by
  intro p hp; cases p <;> first | exact absurd (by decide) hp | simp [sameIn, leaveDraining]

theorem within_endDraining (s : State) : Within [.mode, .store, .queue, .claims, .counters, .mapUnit] s (endDraining s) := by
  have h := fun m => (within_leaveDraining s m).mono (qs := [.mode, .store, .queue, .claims, .counters, .mapUnit])
  unfold endDraining
  dsimp only
  split
  · exact (h _).trans (within_enterQuiesced _).mono
  · exact (h _).trans (within_offerNotice _ _).mono
  · exact h _

theorem within_offLine (s : State) : Within [.line] s (offLine s) := by
  intro p hp; cases p <;> first | exact absurd (by decide) hp | simp [sameIn, offLine]

theorem within_updateEntry (s : State) (uid : Nat) (g : Entry → Entry) : Within [.queue] s (updateEntry s uid g) :=
  within_setQueue s _

theorem within_removeEntry (s : State) (uid : Nat) : Within [.queue] s (removeEntry s uid) := within_withdraw s _

theorem within_tellOwner (s : State) (e : Entry) : Within [.store, .queue, .counters, .mapUnit] s (tellOwner s e) := by
  unfold tellOwner
  split
  · exact (within_tellStore s e).mono
  · exact within_testNotice s
  · exact .refl _ s

/-- The parts that resolving a stream-frame may change. -/
abbrev resolving : List Part := [.store, .queue, .counters, .mapUnit, .cursors]

theorem within_resolve (s : State) (x : StreamId) (f : FrameCount) (k : Option Nat) : Within resolving s (resolve s x f k) :=
  ((within_withdraw s _).mono.trans (within_freeRecord _ x f).mono).trans (within_moveCursor _ x f k)

theorem within_failAttempt (s : State) (a : Attempt) :
    Within [.line, .store, .queue, .counters, .mapUnit] s (failAttempt s a) := by
  have h := (within_offLine s).mono (qs := [.line, .store, .queue, .counters, .mapUnit])
  unfold failAttempt
  dsimp only
  split
  · exact h
  · refine h.trans (.ite (fun _ => (within_updateEntry _ _ _).mono) (fun _ => .ite (fun _ => ?_)
      (fun _ => (within_updateEntry _ _ _).mono)))
    exact ((within_removeEntry _ _).mono.trans (within_countLinkDrop _).mono).trans (within_tellOwner _ _).mono

theorem within_entrySent (s : State) (e : Entry) :
    Within [.mode, .store, .queue, .claims, .counters, .mapUnit] s (entrySent s e) := by
  have h := (within_removeEntry s e.uid).mono.trans ((within_tellOwner (removeEntry s e.uid) e).mono
    (qs := [.mode, .store, .queue, .claims, .counters, .mapUnit]))
  unfold entrySent
  exact .ite (fun _ => h.trans (within_endDraining _)) (fun _ => .ite (fun _ => h.trans (within_enterQuiesced _).mono)
    (fun _ => h))

/-- The parts that the end of an attempt may change. -/
abbrev ending : List Part := [.line, .mode, .store, .queue, .claims, .counters, .mapUnit, .cursors]

theorem within_completeAttempt (s : State) (a : Attempt) : Within ending s (completeAttempt s a) := by
  have h := (within_offLine s).mono (qs := ending)
  unfold completeAttempt
  dsimp only
  split
  · exact h.trans (within_resolve _ _ _ _).mono
  · exact h.trans (within_resolve _ _ _ _).mono
  · split
    · exact h
    · exact h.trans (.ite (fun _ => (within_updateEntry _ _ _).mono) (fun _ => (within_entrySent _ _).mono))

theorem within_endAttempt (s : State) (rejected : Bool) : Within ending s (endAttempt s rejected) := by
  unfold endAttempt
  split
  · exact .refl _ s
  · exact .ite (fun _ => (within_failAttempt s _).mono) (fun _ => within_completeAttempt s _)

theorem within_abortAttempt (s : State) : Within [.line, .store, .queue, .counters, .mapUnit] s (abortAttempt s) := by
  unfold abortAttempt
  split
  · exact .refl _ s
  · exact within_failAttempt s _

theorem within_armAdoption (s : State) : Within [.table] s (armAdoption s) := by
  intro p hp; cases p <;> first | exact absurd (by decide) hp | simp [sameIn, armAdoption]

theorem within_enterListening (s : State) : Within [.line, .table, .claims] s (enterListening s) := by
  unfold enterListening
  refine .trans ?_ (within_settleClaims _).mono
  refine .trans ?_ (within_armAdoption _).mono
  intro p hp; cases p <;> first | exact absurd (by decide) hp | simp [sameIn]

theorem within_enterFault (s : State) (r : FaultRecord) (x : Option Instant) :
    Within [.line, .claims] s (enterFault s r x) := by
  unfold enterFault
  refine .trans ?_ (within_settleClaims _).mono
  intro p hp; cases p <;> first | exact absurd (by decide) hp | simp [sameIn]

theorem within_permanentFault (s : State) : Within [.line, .claims] s (permanentFault s) := by
  refine (within_enterFault s .duplicate none).trans ?_
  intro p hp; cases p <;> first | exact absurd (by decide) hp | simp [sameIn, permanentFault]

theorem within_firstDuplicate (s : State) : Within [.line, .claims] s (firstDuplicate s) := by
  refine (within_enterFault s .duplicate (some (s.now + recoveryTime))).trans ?_
  intro p hp; cases p <;> first | exact absurd (by decide) hp | simp [sameIn, firstDuplicate]

theorem within_duplicateFault (s : State) : Within [.line, .claims] s (duplicateFault s) := by
  unfold duplicateFault
  exact .ite (fun _ => .refl _ s) (fun _ => .ite (fun _ => within_permanentFault s) (fun _ => within_firstDuplicate s))

/-- Hearing a message touches what its owner touches, and the end slot, the control errors and a DUPLICATE event. -/
theorem within_hear (s : State) (k : MsgKind) (m : LinkMessage) (owner : State → State) (ps : List Part)
    (h : ∀ s, Within ps s (owner s)) (hs : ∀ p ∈ [Part.line, .claims, .counters], p ∈ ps) :
    Within ps s (hear s k m owner) := by
  have he := fun x => (within_setEndSlot s x).mono (qs := ps) (fun p hp => hs p (by simp_all))
  unfold hear
  refine .ite (fun _ => .refl _ s) (fun _ => .ite (fun _ => he _) (fun _ => (he _).trans (.ite (fun _ => ?_) (fun _ =>
    .ite (fun _ => ?_) (fun _ => h _)))))
  · exact (within_countControlError _).mono (fun p hp => hs p (by simp_all))
  · exact (within_duplicateFault _).mono (fun p hp => hs p (by simp at hp ⊢; tauto))

theorem within_completeOwn (s : State) (k : MsgKind) : Within ending s (completeOwn s k) := by
  unfold completeOwn
  split
  · exact .ite (fun _ => within_completeAttempt s _) (fun _ => .refl _ s)
  · exact .refl _ s

theorem within_receive (s : State) (k : MsgKind) (m : Incoming) (owner : State → LinkMessage → State) (ps : List Part)
    (h : ∀ s m, Within ps s (owner s m)) (hs : ∀ p ∈ ending, p ∈ ps) : Within ps s (receive s k m owner) := by
  unfold receive
  split
  · exact (within_completeOwn s k).mono hs
  · exact within_hear s k _ _ ps (fun s => h s _) (fun p hp => hs p (by revert hp; revert p; decide))

/-- A command under its common course touches what it does and the time and the claims. -/
theorem within_live (t : Instant) (s : State) (f : State → State) (ps : List Part) (h : ∀ s, Within ps s (f s))
    (hs : ∀ p ∈ [Part.time, .claims], p ∈ ps) : Within ps s (live t s f) := by
  have hc := (within_clocked s t).mono (qs := ps) (fun p hp => hs p (by simp_all))
  unfold live
  exact .ite (fun _ => hc) (fun _ => (hc.trans (h _)).trans
    ((within_settleClaims _).mono (fun p hp => hs p (by simp_all))))

/-! ### Mode controller and requests -/

theorem within_setPeer (s : State) (p : Station) (q : Peer) : Within [.peers] s (setPeer s p q) := by
  intro p hp; cases p <;> first | exact absurd (by decide) hp | simp [sameIn, setPeer]

theorem within_endRestarting (s : State) : Within [.mode] s (endRestarting s) := by
  intro p hp; cases p <;> first | exact absurd (by decide) hp | simp [sameIn, endRestarting]

theorem within_hearStatus (s : State) (m : LinkMessage) :
    Within [.scheduler, .mapUnit, .store, .queue, .counters, .cursors, .table, .claims, .peers] s (hearStatus s m) := by
  unfold hearStatus
  refine .trans ?_ (within_raiseMarks _ _).mono
  refine .trans ?_ (within_weighStatus _ _).mono
  refine .trans ?_ (within_tieBreak _ _).mono
  exact (within_setPeer s _ _).mono.trans (.ite (fun _ => (within_adoptSubscriptions _ _).mono) (fun _ => .refl _ _))

theorem within_enterDraining (s : State) : Within [.mode] s (enterDraining s) := by
  intro p hp; cases p <;> first | exact absurd (by decide) hp | simp [sameIn, enterDraining]

theorem within_abandonAll (s : State) : Within [.scheduler, .arrivals, .store, .queue] s (abandonAll s) :=
  ((within_stopEngines s).mono.trans (within_emptyArrivals _).mono).trans
    ((within_emptyStore _).mono.trans (within_clearQueue _ _).mono)

theorem within_forgetUsers (s : State) : Within [.table, .claims, .peers, .cursors, .releaseList] s (forgetUsers s) := by
  intro p hp; cases p <;> first | exact absurd (by decide) hp | simp [sameIn, forgetUsers]

theorem within_forgetEnsemble (s : State) :
    Within [.mapUnit, .table, .claims, .peers, .cursors, .releaseList, .slots] s (forgetEnsemble s) :=
  ((within_setMaps s _).mono.trans (within_forgetUsers _).mono).trans (within_emptySlots _).mono

/-- The parts that an ENSEMBLE_CHANGE may change. -/
abbrev changing : List Part :=
  [.mode, .scheduler, .arrivals, .store, .queue, .mapUnit, .table, .claims, .peers, .cursors, .releaseList, .slots,
    .tracker, .statusTimer, .counters]

theorem within_ensembleChange (s : State) (id : EnsembleId) : Within changing s (ensembleChange s id) := by
  have h : Within changing s (retune (forgetEnsemble (abandonAll (enterDraining s))) id) :=
    ((within_enterDraining s).mono.trans (within_abandonAll _).mono).trans
      ((within_forgetEnsemble _).mono.trans (within_setTracker _ _).mono)
  exact (h.trans (.ite (fun _ => (within_setStatusTimer _ _).mono) (fun _ => .refl _ _))).trans (within_offerNotice _ _).mono

theorem within_relisten (s : State) : Within [.line, .table, .claims] s (relisten s) := by
  unfold relisten
  split
  · exact within_enterListening s
  · refine .trans ?_ (within_armAdoption _).mono
    intro p hp; cases p <;> first | exact absurd (by decide) hp | simp [sameIn]
  all_goals exact .refl _ s

/-- The parts that a RESTART may change. -/
abbrev restarting : List Part := [.mode, .scheduler, .store, .queue, .mapUnit, .claims, .line, .table]

theorem within_restart (s : State) : Within restarting s (restart s) := by
  unfold restart
  refine .ite (fun _ => .refl _ s) (fun _ => ?_)
  exact (((within_setMode s _).mono.trans (within_stopEngines _).mono).trans
    ((within_emptyStore _).mono.trans (within_clearQueue _ _).mono)).trans
      (((within_setMaps _ _).mono.trans (within_settleClaims _).mono).trans
        ((within_relisten _).mono.trans (within_restartPass _).mono))

theorem within_quiesce (s : State) : Within [.mode, .scheduler, .queue, .store, .claims, .counters, .mapUnit] s (quiesce s) := by
  unfold quiesce
  refine .ite (fun _ => ?_) (fun _ => .refl _ s)
  exact (((within_setMode s _).mono.trans (within_quiesceJobs _).mono).trans
    ((within_withdraw _ _).mono.trans (within_emptyStore _).mono)).trans
      ((within_settleClaims _).mono.trans (within_reportIdle _).mono)

theorem within_resumeWork (s : State) :
    Within [.mode, .scheduler, .queue, .store, .counters, .mapUnit] s (resumeWork s) :=
  (((within_setMode s _).mono.trans (within_resumeContexts _).mono).trans
    ((within_withdraw _ _).mono.trans (within_testNotice _).mono)).trans (within_settleJobs _).mono

theorem within_resume (s : State) : Within [.mode, .scheduler, .queue, .store, .counters, .mapUnit] s (resume s) := by
  unfold resume
  split
  · exact within_resumeWork s
  · exact within_resumeWork s
  · refine .ite (fun _ => ?_) (fun _ => .refl _ s)
    intro p hp; cases p <;> first | exact absurd (by decide) hp | simp [sameIn]
  all_goals exact .refl _ s

end Sys2Proof.Machine
end

