-- ==== Sys2Proof/Laws/Queue.lean ====
section
/-!
SUPPORT. What the operations that every command passes through can do: the common course of a command (claims settled,
local time), the ordered insertion of the transmit queue, an offer to it, the counters, the records and cursors looked up.
-/

namespace Sys2Proof.Machine

-- one theorem at a time: elaborated side by side, they would hold more threads than the check allows
set_option Elab.async false

/-! ### The common course of a command -/

/-- Settling claims that are settled changes nothing. -/
theorem settleClaims_of_settled {s : State} (h : Settled s) : settleClaims s = s := by
  unfold settleClaims
  rcases h with h | ⟨h1, h2, h3⟩
  · rw [if_pos h]
  · split
    · rfl
    · obtain ⟨_, _, _, _, _, _, _, _, _, sub, _, _, _⟩ := s
      obtain ⟨_, _, _, _, _, _, _⟩ := sub
      simp_all

/-- After the claims are settled they are settled. -/
theorem settled_settleClaims (s : State) : Settled (settleClaims s) := by
  unfold settleClaims
  split
  · exact .inl ‹_›
  · exact .inr ⟨rfl, rfl, rfl⟩

/-- Claims stay settled where mode, link state, sync state and claims are as they were. -/
theorem Settled.congr {s u : State} (h : Settled s) (hm : u.mod.mode = s.mod.mode) (hl : u.lnk.state = s.lnk.state)
    (hs : u.ftr.sync = s.ftr.sync) (hc : u.sub.claims = s.sub.claims) (hd : u.sub.claimLoad = s.sub.claimLoad)
    (ho : u.sub.claimsOpen = s.sub.claimsOpen) : Settled u := by
  unfold Settled claimsAllowed at *
  rw [hm, hl, hs, hc, hd, ho]
  exact h

/-- A change that leaves tracker, line, mode and claims alone leaves claims settled. -/
theorem Settled.within {ps : List Part} {s u : State} (h : Settled s) (hw : Within ps s u)
    (ht : Part.tracker ∉ ps := by decide) (hl : Part.line ∉ ps := by decide) (hm : Part.mode ∉ ps := by decide)
    (hc : Part.claims ∉ ps := by decide) : Settled u :=
  h.congr (hw.mode hm) (hw.linkState hl) (by rw [hw.ftr ht]) (hw.claims hc) (hw.claimLoad hc) (hw.claimsOpen hc)

/-- A command that finds the part awake does what its own function does, where that leaves claims settled. -/
theorem live_eq {s u : State} {t : Instant} {f : State → State} (h : Awake s) (hf : f (s.clocked t) = u) (hs : Settled u) :
    live t s f = u := by
  have e : live t s f = if s.held = true then s.clocked t else settleClaims (f (s.clocked t)) := rfl
  rw [e, h.1, hf, settleClaims_of_settled hs]
  rfl

/-- While RESET_N is low a command moves local time and does nothing else (R174). -/
theorem live_held {s : State} {t : Instant} {f : State → State} (h : s.held = true) : live t s f = s.clocked t := by
  have e : live t s f = if s.held = true then s.clocked t else settleClaims (f (s.clocked t)) := rfl
  rw [e, if_pos h]

@[simp] theorem laneOf_clocked (s : State) (t : Instant) (i : LaneId) : laneOf (s.clocked t) i = laneOf s i := rfl
@[simp] theorem engineOf_clocked (s : State) (t : Instant) (e : EngineId) : engineOf (s.clocked t) e = engineOf s e := rfl
@[simp] theorem contextOf_clocked (s : State) (t : Instant) (x : StreamId) : contextOf (s.clocked t) x = contextOf s x := rfl
@[simp] theorem recordOf_clocked (s : State) (t : Instant) (x : StreamId) (f : FrameCount) :
    recordOf (s.clocked t) x f = recordOf s x f := rfl
@[simp] theorem cursorOf_clocked (s : State) (t : Instant) (x : StreamId) : cursorOf (s.clocked t) x = cursorOf s x := rfl
@[simp] theorem queued_clocked (s : State) (t : Instant) (k : MsgKind) (x : Option StreamId) (f : Option FrameCount) :
    queued (s.clocked t) k x f = queued s k x f := rfl

/-- A timer is due when its instant is no later than the local instant at which the command acts. -/
theorem due_clocked {s : State} {t d : Instant} : due (s.clocked t) (some d) = decide (d ≤ max s.now t) := rfl

/-! ### Ordered insertion (R125) -/

theorem mem_insertBy {α : Type} {lt : α → α → Bool} {x y : α} {l : List α} : y ∈ insertBy lt x l ↔ y = x ∨ y ∈ l := by
  induction l with
  | nil => simp [insertBy]
  | cons z zs ih =>
    unfold insertBy
    split <;> simp [ih, or_left_comm]

@[simp] theorem length_insertBy {α : Type} (lt : α → α → Bool) (x : α) (l : List α) :
    (insertBy lt x l).length = l.length + 1 := by
  induction l with
  | nil => rfl
  | cons z zs ih => unfold insertBy; split <;> simp [ih]

theorem mem_placeEntry {e f : Entry} {q : List Entry} : f ∈ placeEntry e q ↔ f = e ∨ f ∈ q := mem_insertBy

@[simp] theorem length_placeEntry (e : Entry) (q : List Entry) : (placeEntry e q).length = q.length + 1 :=
  length_insertBy _ _ _

/-- A queue in ascending arbitration field stays so. -/
theorem placeEntry_sorted {q : List Entry} (h : q.Pairwise (fun a b => a.arb ≤ b.arb)) (e : Entry) :
    (placeEntry e q).Pairwise (fun a b => a.arb ≤ b.arb) := by
  induction q with
  | nil => exact .cons (by simp) .nil
  | cons z zs ih =>
    have hz := List.pairwise_cons.1 h
    unfold placeEntry insertBy
    split
    · rename_i hlt
      have hlt : e.arb < z.arb := by simpa using hlt
      refine .cons (fun f hf => ?_) h
      rcases List.mem_cons.1 hf with rfl | hf
      · exact BitVec.le_of_lt hlt
      · exact BitVec.le_trans (BitVec.le_of_lt hlt) (hz.1 f hf)
    · rename_i hlt
      have hle : z.arb ≤ e.arb := by
        have : ¬e.arb < z.arb := by simpa using hlt
        exact BitVec.not_lt.1 this
      refine .cons (fun f hf => ?_) (ih hz.2)
      rcases mem_placeEntry.1 hf with rfl | hf
      · exact hle
      · exact hz.1 f hf

/-! ### An offer (R126 to R128) -/

/-- Everything that an offer to the queue can do, with the answer it gives the entry's owner. -/
theorem offerEntry_cases (s : State) (e : Entry) :
    (s.lnk.state = .offline ∧ offerEntry s e = (s, false)) ∨
    (s.lnk.state ≠ .offline ∧ queued s e.kind e.stream e.frame = true ∧
      ((e.kind = .trace ∧ offerEntry s e = (countTraceDrop (rewriteHeld s e), true)) ∨
       (e.kind = .status ∧ offerEntry s e = (rewriteHeld s e, true)) ∨
       (e.kind ≠ .trace ∧ e.kind ≠ .status ∧ offerEntry s e = (s, false)))) ∨
    (s.lnk.state ≠ .offline ∧ queued s e.kind e.stream e.frame = false ∧
      ((e.kind = .trace ∧ traceLimit ≤ s.lnk.queue.countP (fun h => h.kind == .trace) ∧
          offerEntry s e = (countTraceDrop s, false)) ∨
       (s.lnk.queue.length < queueLimit ∧ offerEntry s e = (insertNew s e, true)) ∨
       (queueLimit ≤ s.lnk.queue.length ∧ ∃ last, s.lnk.queue.getLast? = some last ∧
          ((e.arb < last.arb ∧ offerEntry s e =
              (tellStore (insertNew (countQueueDrop (setQueue s s.lnk.queue.dropLast)) e) last, true)) ∨
           (¬e.arb < last.arb ∧ offerEntry s e = (countQueueDrop s, false)))))) := by
  unfold offerEntry
  by_cases hl : s.lnk.state = .offline
  · exact .inl ⟨hl, by rw [if_pos hl]⟩
  refine .inr ?_
  rw [if_neg hl]
  by_cases hq : queued s e.kind e.stream e.frame = true
  · refine .inl ⟨hl, hq, ?_⟩
    rw [if_pos hq]
    cases hk : e.kind <;> simp
  · refine .inr ⟨hl, by simpa using hq, ?_⟩
    rw [if_neg hq]
    by_cases ht : e.kind = .trace ∧ traceLimit ≤ s.lnk.queue.countP (fun h => h.kind == .trace)
    · exact .inl ⟨ht.1, ht.2, by rw [if_pos ht]⟩
    refine .inr ?_
    rw [if_neg ht]
    by_cases hn : s.lnk.queue.length < queueLimit
    · exact .inl ⟨hn, by rw [if_pos hn]⟩
    refine .inr ⟨by omega, ?_⟩
    rw [if_neg hn]
    cases hlast : s.lnk.queue.getLast? with
    | none =>
      rw [List.getLast?_eq_none_iff] at hlast
      rw [hlast] at hn
      exact absurd (by decide : (0 : Nat) < queueLimit) hn
    | some last =>
      refine ⟨last, rfl, ?_⟩
      by_cases ha : e.arb < last.arb
      · exact .inl ⟨ha, by simp [ha]⟩
      · exact .inr ⟨ha, by simp [ha]⟩

/-- An offer that there is room for inserts the entry, and displaces none. -/
theorem offer_of_room {s : State} {e : Entry} (h : RoomFor s e.kind e.stream e.frame)
    (ht : ¬(e.kind = .trace ∧ traceLimit ≤ s.lnk.queue.countP (fun h => h.kind == .trace))) :
    offer s e = (insertNew s e, true) := by
  have ho : offerEntry s e = (insertNew s e, true) := by
    unfold offerEntry
    rw [if_neg h.1, if_neg (by simp [h.2.1]), if_neg ht, if_pos (show s.lnk.queue.length < queueLimit from h.2.2)]
  have hk : queued s .map none none = true → queued (insertNew s e) .map none none = true := by
    intro hq
    simp only [queued, List.any_eq_true] at hq ⊢
    obtain ⟨x, hx, hm⟩ := hq
    exact ⟨x, mem_placeEntry.2 (.inr hx), hm⟩
  unfold offer
  rw [ho]
  dsimp only
  rw [if_neg]
  cases hq : queued s .map none none with
  | false => simp
  | true => simp [hk hq]

/-! ### Counters, records -/

theorem le_bump (c : BitVec 16) : c ≤ bump c := by
  unfold bump
  split
  · exact BitVec.le_refl c
  · bv_omega

theorem bump_eq_of_full : bump 65535 = 65535 := by decide

/-- Freeing a record of a stream-frame with none changes nothing. -/
theorem freeRecord_none {s : State} {x : StreamId} {f : FrameCount} (h : recordOf s x f = none) : freeRecord s x f = s := by
  unfold freeRecord
  rw [h]

/-- After freeing, the stream-frame has no record. -/
theorem recordOf_of_records_filter {s : State} {x : StreamId} {f : FrameCount}
    (h : ∀ r ∈ s.pst.records, (r.stream == x && r.frame == f) = false) : recordOf s x f = none := by
  unfold recordOf
  rw [List.find?_eq_none]
  intro r hr
  simp [h r hr]

end Sys2Proof.Machine
end

