-- ==== Sys2Proof/Tests/Slice0.lean ====
section
/-!
SUPPORT. Tests: the smoke test of WellFormed, words and figures written out from spec/ (the section is named at each),
one or two checks of each command, and for every statement a state and operands that meet its hypotheses.
-/

namespace Sys2Proof.Tests

-- one thread at a time: the kernel's evaluations below would otherwise each hold one
set_option Elab.async false

open Sys2Proof Sys2Proof.Machine

/-! ### States and messages -/

/-- The state after a command, on the queue's front. -/
def after (c : Instr) (s : State) : State :=
  match step (s.withCommand c) with
  | .next u => u
  | _ => s

def upLane : Lane := { Lane.held with state := .aligned }

/-- Reset, with both lanes ALIGNED. -/
def up : State := { State.reset with lanes := #v[upLane, upLane] }

/-- The frame in progress, received from a marker at instant 0. -/
def frame0 : Frame := newFrame 0 .reception true none

/-- In frame time, at count 100, with a frame in progress and the next marker expected at 72 ms. -/
def timed (sync : SyncState) (f : Frame) : State :=
  { up with ftr := { up.ftr with sync := sync, count := 100, expected := some 5, marker := some 72000000, frame := some f },
            mod := { up.mod with statusTimer := none } }

def locked : State := timed .locked frame0

/-- At a later local instant. -/
def later (s : State) (t : Instant) : State := { s with now := t }

def linkIs (s : State) (l : LinkState) : State := { s with lnk := { s.lnk with state := l } }

def modeIs (s : State) (m : Mode) (back : Option Mode) : State := { s with mod := { s.mod with mode := m, returnMode := back } }

def stationIs (s : State) (n : Fin 4) : State := { s with mod := { s.mod with straps := { s.mod.straps with station := n } } }

/-- A message as R116 and R134 call for it. -/
def message (k : MsgKind) (src : Nat) (stream : Byte) (frame : BitVec 16) (rank : Nat) (body : List Byte) : LinkMessage :=
  let one : Byte := if consumerKind k then 0 else 1
  { start := 0, arb := arbField (classOf k) rank src,
    header := { source := BitVec.ofNat 8 src, stream := stream, frame := frame, bodyLength := BitVec.ofNat 16 body.length,
                flags := 0, attempt := one, mode := one, sync := one, fault := 0 },
    body := body }

/-- A PARCEL of stream 3, frame 93: score 700, PASS, two payload bytes, carry-in UNKNOWN, carry-out 9. -/
def parcelHeard : LinkMessage :=
  message .parcel 1 3 93 323 [1, 0x02, 0xBC, 1, 0, 2, 0xFF, 0xFF, 0, 9, 0, 0xAA, 0xBB]
def gapHeard : LinkMessage := message .gap 1 3 93 0 [1]
/-- A STATUS of station 1, LOCKED at count 101, current map COMPLETE with count 1 and 5 entries, one claim, stream 9. -/
def statusHeard : LinkMessage :=
  message .status 1 0xFF 0xFFFF 0
    ([1, 1, 3, 0, 101, 3, 1, 2, 9, 3, 1, 2, 9, 0, 2, 1, 5, 0, 0, 0, 0xFF, 0xFF, 0, 0] ++ List.replicate 14 0 ++ [1, 0, 9])
/-- A MAP notice of a current map, change count 6, with one entry: stream 9, grains 10 to 13, profile 3, UNIT. -/
def mapHeard : LinkMessage := message .map 1 0xFF 0xFFFF 15 [1, 6, 1, 0xFF, 0xFF, 9, 0, 10, 0, 4, 0x83]
/-- The same with a run that ends past grain 599. -/
def badMapHeard : LinkMessage := message .map 1 0xFF 0xFFFF 15 [1, 6, 1, 0xFF, 0xFF, 9, 0x02, 0x57, 0, 4, 0x83]
def subscribeHeard : LinkMessage := message .subscribe 4 9 0xFFFF 0 [1, 3]
def releaseHeard : LinkMessage := message .release 4 9 0xFFFF 0 []
def request (k : MsgKind) (body : List Byte) : LinkMessage := message k 5 0xFF 0xFFFF 0 body

def entryOf (k : MsgKind) (x : Option StreamId) (f : Option FrameCount) (rank : Nat) (b : EntryBody) (uid : Nat) : Entry :=
  { newEntry up k x f rank b with uid := uid }

/-- The state with this queue, the message of entry `e` on the line. -/
def sending (s : State) (e : Entry) (q : List Entry) : State :=
  { s with lnk := { s.lnk with queue := q, nextUid := 9, attempt := some (takeMessage s e) } }

/-! ### WellFormed refuses -/

theorem test_wf_refuses_short_body :
    Instr.wellFormed (.gap 5 (.heard { gapHeard with body := [] })) = false := by decide
theorem test_wf_refuses_start_after_end : Instr.wellFormed (.release 5 { releaseHeard with start := 6 }) = false := by
  decide
theorem test_wf_refuses_known_code : Instr.wellFormed (.unknownKindMessage 5 0x24 releaseHeard) = false := by decide
theorem test_wf_refuses_eight_rivals : Instr.wellFormed (.contention 5 [0, 1, 2, 3, 4, 5, 6, 7]) = false := by decide
theorem test_wf_refuses_equal_rivals : Instr.wellFormed (.contention 5 [7, 7]) = false := by decide
theorem test_wf_refuses_short_parcel :
    Instr.wellFormed (.decodeEnd 5 0 { code := [], bytes := [0, 0], metrics := List.replicate 64 0 }) = false := by decide
theorem test_wf_refuses_missing_metrics :
    Instr.wellFormed (.decodeEnd 5 0 { code := [], bytes := [0, 0, 0], metrics := [] }) = false := by decide
theorem test_wf_refuses_recessive_start : Instr.wellFormed (.reject 5 0 [true]) = false := by decide
theorem test_wf_refuses_bits_from_later : Instr.wellFormed (.reject 5 6 [false]) = false := by decide
theorem test_wf_refuses_consumer_peer : Instr.wellFormed (.peerAging 5 4) = false := by decide
theorem test_wf_takes_messages : Instr.wellFormed (.parcel 5 (.heard parcelHeard)) = true ∧
    Instr.wellFormed (.status 5 (.heard statusHeard)) = true ∧ Instr.wellFormed (.contention 5 [0x2001]) = true := by decide +kernel

/-! ### Words written out from R135, codes from R134 -/

/-- The table gives no row any bits. -/
theorem test_no_table_word : decodeTableWord 32 0x12345678 = none := by decide

/-- Type code 0000b and eight cells 1 to 8: payload. -/
theorem test_lane_payload_word : classifyLaneWord 0b000000010010001101000101011001111000#36 = .cells .payload 0x12345678 := by
  decide
/-- Type code 0001b: control. -/
theorem test_lane_control_word : classifyLaneWord 0x187654321#36 = .cells .control 0x87654321 := by decide
/-- Type code 0010b is none of R135's. -/
theorem test_lane_reserved_code : classifyLaneWord 0x212345678#36 = .corrupt := by decide
/-- A marker with one check bit turned is corrupt, and so counts for the corrupt run. -/
theorem test_lane_bad_check :
    commandOfLaneWord 5 0 3 (controlWordBits 0x9 0x3CC3A5 ^^^ 1) .padding = .fourthCorruptControlWord 5 0 ∧
      commandOfLaneWord 5 0 0 (controlWordBits 0x9 0x3CC3A5) .padding = .frameStartMarker 5 0 := by decide +kernel
/-- The codes of R134: 22h is RESTART, 08h names no kind. -/
theorem test_message_codes : commandOfMessage 5 0x22 releaseHeard = .restart 5 releaseHeard ∧
    commandOfMessage 5 0x08 releaseHeard = .unknownKindMessage 5 0x08 releaseHeard := by decide
/-- Seven equal bits call for a stuff bit, the first bit of the next run (R114). -/
theorem test_stuffing : stuff [false, false, false, false, false, false, false, false] =
    [false, false, false, false, false, false, false, true, false] := by decide

/-- Marker, idle and status words with their checks worked out by hand from R135, and read as lane words. -/
theorem test_lane_words_with_checks :
    classifyLaneWord 0x93CC3A51D#36 = .marker ∧ classifyLaneWord 0xF5A0FF06C#36 = .idle ∧
    classifyLaneWord 0x69500001D#36 = .status true 0x2A ∧ classifyLaneWord 0x615000016#36 = .status false 0x2A := by decide +kernel

/-- RELEASE of stream 9 by station 4 on the line, worked out by hand from R114, R115, R116 and R134: start bit, stuffed
bits with check word 6C89h, flag lead, end flag. -/
def releaseBits : List Bool :=
  bitsOf
    0b00010000000100010000010010000001000000100111111101111111011100000001000000010000000100000001000000010000000100000001000000010110110010001001100000000#149

theorem test_release_on_the_line :
    judge releaseBits = some { arb := 0x2004, code := 0x12, header := releaseHeard.header, body := [] } := by decide +kernel
theorem test_release_damaged : judge (releaseBits.modify 40 (!·)) = none := by decide +kernel
/-- Section 7.9: a STATUS of body length 57 holds the line for 605 bit times but for its stuff bits. -/
theorem test_line_bits_of_short_message :
    (coreBits 0 (List.replicate 12 0) (List.replicate 57 0)).length + 1 + 8 + 11 = 605 := by decide +kernel
/-- Section 7.9: the fields of the three contenders, and who wins. -/
theorem test_arbitration_of_79 :
    arbField 4 (1023 - 930) 0 = 33512 ∧ arbField 2 0 1 = 16385 ∧ arbField 4 (1023 - 1000) 2 = 32954 ∧
    winsArbitration 16385 [33512, 32954] = true ∧ winsArbitration 33512 [32954] = false ∧
    winsArbitration 32954 [33512] = true := by decide

/-! ### Figures of section 5.5 (scores) and 5.8 (walks) -/

theorem test_scores_of_55 :
    scoreOf 4608 384 211 true = 930 ∧ scoreOf 4608 384 211 false = 232 ∧ scoreOf 2304 864 300 false = 154 ∧
    scoreOf 2304 864 300 true = 618 := by decide +kernel

/-- A payload of `n` bytes with unit headers of total length `l` at the offsets `o`. -/
def payloadOf (n : Nat) (headers : List (Nat × Nat)) : List Byte :=
  headers.foldl (fun p h => ((p.set h.1 0x5C).set (h.1 + 1) (BitVec.ofNat 8 (h.2 / 256))).set (h.1 + 2)
    (BitVec.ofNat 8 (h.2 % 256))) (List.replicate n 0)

theorem test_walk_frame_700 : walkKnown (payloadOf 190 [(40, 96), (136, 80)]) 40 =
    { units := [40, 136], carryOut := some 26, resync := false, overflow := false } := by decide +kernel
theorem test_walk_padding : walkKnown (payloadOf 190 [(26, 162)]) 26 =
    { units := [26], carryOut := some 0, resync := false, overflow := false } := by decide +kernel
theorem test_walk_long_unit :
    (walkKnown (payloadOf 190 [(0, 600)]) 0).carryOut = some 410 ∧ (walkKnown (payloadOf 190 []) 410).carryOut = some 220 ∧
    walkKnown (payloadOf 190 [(30, 160)]) 30 = { units := [30], carryOut := some 0, resync := false, overflow := false } := by
  decide +kernel
theorem test_walk_broken : walkKnown (payloadOf 190 [(0, 50)]) 0 =
    { units := [0], carryOut := none, resync := true, overflow := false } := by decide +kernel
theorem test_walk_resync : walkUnknown (payloadOf 190 [(7, 2), (58, 43), (101, 39), (140, 70)]) [7, 58, 101, 140, 189] =
    { units := [58, 101, 140], carryOut := some 20, resync := true, overflow := false } := by decide +kernel
theorem test_walk_overflow :
    let w := walkKnown (payloadOf 598 ((List.range 36).map (fun i => (16 * i, 16)) ++ [(576, 30)])) 0
    w.units.length = 32 ∧ w.units.getLast? = some 496 ∧ w.overflow = true ∧ w.carryOut = some 8 ∧ w.resync = false := by
  decide +kernel
/-- R96: a walk that breaks after the 32nd offset sets UNIT_OVERFLOW with RESYNC; one that breaks after the 31st does not
(log 51). -/
theorem test_walk_broken_after_32 :
    let w (n : Nat) := walkKnown (payloadOf 598 ((List.range n).map (fun i => (16 * i, 16)))) 0
    (w 32).units.length = 32 ∧ (w 32).resync = true ∧ (w 32).overflow = true ∧
      (w 31).units.length = 31 ∧ (w 31).resync = true ∧ (w 31).overflow = false := by decide +kernel
/-- The cyclic check of R87 over the nine bytes 31h to 39h, by the standard's own figure for this generator and preset. -/
theorem test_crc16 : crc16 (bytesBits [0x31, 0x32, 0x33, 0x34, 0x35, 0x36, 0x37, 0x38, 0x39]) = 0x29B1 := by decide +kernel

/-! ### States for the statements about each group of commands -/

def withFrame (s : State) (f : Frame) : State := { s with ftr := { s.ftr with frame := some f } }

def withFill (s : State) (ws : List CellWord) : State := { s with ilm := { s.ilm with fill := some ws } }

/-- In two-lane mode, `n` control cell words of the current pairing have been counted. -/
def withControl (s : State) (n : Nat) (block : List CellWord) : State :=
  { s with ftr := { s.ftr with control := { pairing := .current, marked := true, words := n, block := block, held := [] } } }

/-- A FRAME record of ensemble 5. -/
def record5 : FrameRecord :=
  { count := 200, ensemble := 5, changeCount := 1, entryCount := 2, pending := false, changeFrame := 0,
    nextChangeCount := 0, nextEntryCount := 0 }

/-- A job of stream 3, frame 93, one grain at profile 0, on engine 1. -/
def job3 : Job :=
  { stream := 3, frame := 93, changeCount := 1, start := 0, grains := 1, profile := 0, kind := .plain, cls := .foreground,
    speculative := false, discard := false, release := 1000, state := .running, engine := 1, source := .warmTable,
    started := 0, putOff := false }

/-- Engine 1 is BUSY with `j`, in phase `p`. -/
def busy (s : State) (j : Job) (p : Phase) (span : List Cell) : State :=
  setEngine (setJobs s [j]) 1 { Engine.reset with job := some (j.stream, j.frame), phase := p, span := span }

def cursor3 (f : Option FrameCount) (d : DeadlineState) : Cursor :=
  { stream := 3, cursor := f, carryIn := none, absent := false, deadline := d }

def withCursor (s : State) (c : Cursor) : State := { s with dlv := { s.dlv with cursors := [c] } }

/-- A record of stream 3, frame 93, score 700, on page 0. -/
def record3 (st : RecordState) (offer discard : Option Instant) : ParcelRecord :=
  { stream := 3, frame := 93, changeCount := 1, kind := .plain, payloadLength := 1, score := 700, pass := true,
    erased := false, saturated := false, cold := false, speculative := false, markerOverflow := false, markers := [],
    pages := [0], release := 0, state := st, offerAt := offer, discardAt := discard }

def withRecord (s : State) (r : ParcelRecord) : State :=
  { s with pst := { s.pst with records := [r], freePages := (List.finRange 256).drop 1 } }

def subscription9 : Subscription :=
  { stream := 9, consumer := 4, requested := .foreground, effective := .background, trace := true, units := true }

def withTable (s : State) (t : List Subscription) : State := { s with sub := { s.sub with table := t } }

/-- Cells of which none is erased and all say the bit 0. -/
def cleanSpan : List Cell := List.replicate 96 7

/-- The payload byte AAh with its check word (R87). -/
def foundGood : Decoded := { code := [], bytes := [0xAA, 0xF5, 0x50], metrics := List.replicate 64 0 }

/-- A map entry of grains `a` to `a` + 3. -/
def entry (x : StreamId) (a : Nat) (own : Bool) : MapEntry :=
  { id := x, start := a, grains := 4, profile := 3, kind := .plain, own := own }

/-- A map of change count `c` and `n` entries, of which it holds `es`. -/
def mapOf (st : MapState) (c : ChangeCount) (n : Nat) (es : List MapEntry) (change : FrameCount) : MuxMap :=
  { state := st, count := c, entryCount := n, source := .own, entries := es, changeFrame := change, deferred := none }

/-- With these current and next maps. -/
def withMaps (s : State) (m n : MuxMap) : State := { s with maps := { s.maps with current := m, next := n } }

/-- A WARM checkpoint copy at frame 94. -/
def copy0 : ContextCopy := { next := 94, metrics := List.replicate 64 5, warm := true }

/-- With this checkpoint entry of a stream. -/
def checkpointIs (s : State) (x : StreamId) (c : Checkpoint) : State := setContext s x { contextOf s x with checkpoint := c }

/-- Frame 93 of stream 3, foreground, is still in the slots, its A(F+7) recorded at instant 5. -/
def slotted93 : State :=
  let s := withTable (withMaps locked (mapOf .complete 1 1 [entry 3 0 true] 0) MuxMap.empty)
    [{ subscription9 with stream := 3, effective := .foreground }]
  { s with jsc := { s.jsc with arrivals := [(100, 5)] },
           ilm := { s.ilm with slots := s.ilm.slots.set 4 { tag := some 100, received := true, whole := true, cells := [] } } }

/-- With the 48th word of a control block awaited on lane 1. -/
def awaiting (s : State) : State := withControl s 335 (List.replicate 47 0)

/-- The frame in progress with its control end passed. -/
def over0 : Frame := { frame0 with controlEnded := true }

def ended (s : State) : State := withFrame s over0

theorem awaiting_completes (s : State) (f : Frame) (awake : Awake s) (lane : (laneOf s 1).state = .aligned)
    (frame : s.ftr.frame = some f) (received : isReceived f = true) (running : f.controlEnded = false) :
    CompletesBlock (awaiting s) 1 f :=
  ⟨awake, lane, .inr ⟨rfl, rfl⟩, frame, received, running, rfl, (by decide : 335 < 383), (by decide : (335 + 1) % 48 = 0),
    List.length_replicate⟩

/-- No claims, and none allowed: the link of these states is LISTENING. -/
theorem awake_of_listening (s : State) (held : s.held = false) (fresh : s.sub = Subs.reset) : Awake s :=
  ⟨held, .inr ⟨by rw [fresh]; rfl, by rw [fresh]; rfl, by rw [fresh]; rfl⟩⟩

/-- A STREAM record's fields: stream 3, four grains from `a`. -/
def raw3 (a : Nat) : RawEntry := { id := 3, start := a, grains := 4, profile := 3, kind := some .plain }

/-- A FRAME record that confirms count 100: current map of change count `c` with `n` entries, `r`'s pending fields. -/
def record100 (c : ChangeCount) (n : Nat) (pending : Bool) : FrameRecord :=
  { count := 100, ensemble := 5, changeCount := c, entryCount := n, pending := pending, changeFrame := 104,
    nextChangeCount := c + 1, nextEntryCount := 2 }

/-- R31: a STREAM record equal to the entry held calls for no notice; one that differs does. -/
theorem test_repeated_record_unnoticed :
    let m := mapOf .assembling 1 2 [entry 3 0 true] 0
    noticeDue m (applyRecord m (entry 3 0 true)) = false ∧ noticeDue m (applyRecord m (entry 3 1 true)) = true := by
  decide +kernel
/-- R44: a record of an empty stream id reopens a full adopted map with the own-marked entries and itself. -/
theorem test_reopened_map :
    let m := mapOf .adopted 1 2 [entry 9 0 true, entry 12 8 false] 0
    let r := applyRecord m (entry 3 2 true)
    r.error = false ∧ r.map.entries = [entry 3 2 true, entry 9 0 true] ∧ r.contentChanged = true := by decide +kernel
/-- R39: the outgoing map is held until the frame start of C + 15 or of a later frame has been issued. -/
theorem test_outgoing_map :
    let s (g : Option FrameCount) : State := { locked with ftr := { locked.ftr with lastStart := g } }
    (outgoingFrom (s none) 85).isSome = true ∧ (outgoingFrom (s (some 99)) 85).isSome = true ∧
      outgoingFrom (s (some 100)) 85 = none := by decide +kernel

/-! ### The hypotheses of each statement are met -/

theorem witness_StepRunsFrontCommand :
    (up.withCommand (.idle 0 0)).pending = .idle 0 0 :: [] ∧ up.pending = [] := by decide

theorem witness_PinResetAssertHolds :
    (after (.pinResetAssert 0) up).held = true ∧ isPinReset (.idle 0 0) = false := by decide

theorem witness_LaneAcquires :
    Awake State.reset ∧
    ((laneOf State.reset 0).state = .acquire ∧ (laneOf State.reset 0).stage = .autoZero ∧
      due (State.reset.clocked 250000) (laneOf State.reset 0).autoZeroEnd = true) ∧
    ((laneOf (after (.equaliserAutoZero 250000 1 .negative) State.reset) 1).state = .acquire ∧
      (laneOf (after (.equaliserAutoZero 250000 1 .negative) State.reset) 1).stage = .frequency) ∧
    due (State.reset.clocked 2000000) (laneOf State.reset 1).timeout = true ∧
    (laneOf (after (.lockReport 250001 1) (after (.equaliserAutoZero 250000 1 .negative) State.reset)) 1).state = .track := by
  unfold Awake Settled; decide +kernel

theorem witness_LaneWordsKeepLaneRecord :
    Awake up ∧ (laneOf up 0).state = .aligned ∧ ¬((1 : LaneId) = 0 ∧ false = false ∧ up.ftr.sync = .locked) ∧
    (laneOf (setLane up 0 { upLane with corruptRun := 2 }) 0).corruptRun < 3 ∧
    (laneOf (setLane up 0 { upLane with tune := .oneShot, tuneWords := 256 }) 0).tuneWords = 256 ∧
    (laneOf State.reset 0).state ≠ .aligned := by
  unfold Awake Settled; decide +kernel

theorem witness_DepartureEndsReception :
    Awake locked ∧ locked.mod.straps.singleLane = false ∧ (laneOf locked 0).state = .aligned ∧
    locked.ftr.sync = .locked ∧ locked.ftr.frame = some frame0 ∧ frame0.payloadEnded = false ∧
    (laneOf (setLane locked 0 { upLane with corruptRun := 3 }) 0).corruptRun = 3 ∧
    Awake (timed .holdover frame0) ∧ (timed .holdover frame0).ftr.sync = .holdover := by
  unfold Awake Settled; decide +kernel

theorem witness_PayloadWordGathered :
    let f := { frame0 with payloadWords := 7198 }
    let s := withFill (withFrame locked f) []
    Awake s ∧ (laneOf s 0).state = .aligned ∧ s.ftr.frame = some f ∧ isReceived f = true ∧ f.payloadEnded = false ∧
      f.payloadWords < 7199 ∧ s.ilm.fill = some [] := by
  unfold Awake Settled; decide +kernel

/-- Lane 0 in two-lane mode; a usable and an unusable map; a fill run just short of whole. -/
theorem witness_PayloadEndFilesReceived :
    let f := { frame0 with payloadWords := 7199 }
    let ws := List.replicate 7199 (0x12345678 : CellWord)
    let filling (run : Nat) (st : MapState) : State :=
      let s := withMaps (withTable (withFrame locked f) [{ subscription9 with effective := .foreground }])
        (mapOf st 1 1 [entry 9 0 true] 0) .empty
      { s with ilm := { s.ilm with fill := some ws, fillRun := run } }
    let s := filling 7 .complete
    let u := filling 7 .assembling
    let v := filling 6 .complete
    LastPayloadWord s 0 f ws ∧ LastPayloadWord u 0 f ws ∧ LastPayloadWord v 0 f ws ∧ 7 ≤ s.ilm.fillRun ∧
      s.mod.mode = .running ∧ (applicable s.maps 93).usable = true ∧ s.jsc.jobs.length + (decodeSet s).length ≤ 32 ∧
      (decodeSet s).find? (fun p => p.1 == (9 : StreamId)) = some (9, .foreground) ∧
      (applicable s.maps 93).entryOf 9 = some (entry 9 0 true) ∧ jobOf s 9 93 = none ∧
      (s.jsc.jobs.map (fun j => (j.stream, j.frame))).Nodup ∧
      (engineOf (after (.cellWord 5 0 .payload 0 .padding) s) 2).job = none ∧
      (applicable u.maps 93).usable = false ∧ u.maps.outgoing = none ∧ ¬7 ≤ v.ilm.fillRun :=
  ⟨⟨⟨rfl, .inr ⟨rfl, rfl, rfl⟩⟩, rfl, .inr rfl, rfl, rfl, rfl, rfl, rfl, rfl, List.length_replicate⟩,
    ⟨⟨rfl, .inr ⟨rfl, rfl, rfl⟩⟩, rfl, .inr rfl, rfl, rfl, rfl, rfl, rfl, rfl, List.length_replicate⟩,
    ⟨⟨rfl, .inr ⟨rfl, rfl, rfl⟩⟩, rfl, .inr rfl, rfl, rfl, rfl, rfl, rfl, rfl, List.length_replicate⟩,
    by decide +kernel⟩

theorem witness_ControlWordsFormBlocks :
    let s := withControl locked 382 (List.replicate 46 0)
    let u := withControl locked 335 (List.replicate 47 0)
    Awake s ∧ Awake u ∧ (laneOf s 1).state = .aligned ∧ s.ftr.control.marked = true ∧ s.ftr.frame = some frame0 ∧
      isReceived frame0 = true ∧ s.ftr.control.pairing = .current ∧ s.ftr.control.words < 383 ∧
      (s.ftr.control.words + 1) % 48 ≠ 0 ∧ (u.ftr.control.words + 1) % 48 = 0 ∧ u.ftr.control.block.length = 47 ∧
      frame0.controlEnded = false ∧ Awake (ended u) ∧ isReceived over0 = true ∧ over0.controlEnded = true ∧
      (ended u).ftr.frame = some over0 := by
  unfold Awake Settled; decide +kernel

/-- STREAM records: the ends of R22's ranges, a NONE, an ASSEMBLING and a COMPLETE map, an overlap by one grain. -/
theorem witness_ControlWordsFormBlocks_stream :
    let m := mapOf .assembling 1 2 [entry 9 4 true] 0
    let s := awaiting (withMaps locked m .empty)
    let c := awaiting (withMaps locked (mapOf .complete 1 1 [entry 3 0 true] 0) .empty)
    CompletesBlock s 1 frame0 ∧ CompletesBlock c 1 frame0 ∧ CompletesBlock (awaiting locked) 1 frame0 ∧
      CompletesBlock (awaiting (timed .provisional frame0)) 1 frame0 ∧
      entryInLimits (raw3 597) = false ∧ entryInLimits (raw3 596) = true ∧ s.ftr.sync = .locked ∧
      (awaiting locked).maps.current.state = .none ∧ (awaiting locked).maps.next.state = .none ∧
      c.maps.current.state = .complete ∧ c.maps.current.count = 1 ∧ s.maps.current.state = .assembling ∧
      (∃ x ∈ s.maps.current.entries, x.id ≠ 3 ∧ overlaps x (entryOfRaw (raw3 1) true) = true) ∧
      (∀ x ∈ s.maps.current.entries, x.id ≠ 3 → overlaps x (entryOfRaw (raw3 0) true) = false) :=
  ⟨awaiting_completes _ _ (awake_of_listening _ rfl rfl) rfl rfl rfl rfl,
    awaiting_completes _ _ (awake_of_listening _ rfl rfl) rfl rfl rfl rfl,
    awaiting_completes _ _ (awake_of_listening _ rfl rfl) rfl rfl rfl rfl,
    awaiting_completes _ _ (awake_of_listening _ rfl rfl) rfl rfl rfl rfl, by decide +kernel⟩

/-- FRAME records that open a current map, announce a next one, confirm a change-over at its change frame, and back it
out. -/
theorem witness_ControlWordsFormBlocks_frame :
    let held := mapOf .complete 1 1 [entry 3 0 true] 0
    let s := awaiting (withMaps locked held .empty)
    let n := mapOf .assembling 2 2 [entry 9 0 true] 100
    let c := awaiting (withMaps locked held n)
    let b := checkpointIs (checkpointIs (checkpointIs (setJobs { c with maps := { c.maps with
      marker := some { changeFrame := 100, streams := [3, 9, 12] } } } [{ job3 with stream := 9, speculative := true }])
      3 (.held copy0)) 9 (.held copy0)) 12 .pending
    CompletesBlock (awaiting locked) 1 frame0 ∧ CompletesBlock s 1 frame0 ∧ CompletesBlock b 1 frame0 ∧
      frame0.recordSeen = false ∧ s.ftr.sync = .locked ∧ s.ftr.expected = some (record100 1 1 true).ensemble ∧
      (record100 1 1 true).count = s.ftr.count ∧
      frameRecordValid (record100 1 1 false) = true ∧ frameRecordValid (record100 1 1 true) = true ∧
      frameRecordValid (record100 2 2 false) = true ∧
      (awaiting locked).maps.current.state = .none ∧ (awaiting locked).maps.next.state = .none ∧
      s.maps.current.state ≠ .none ∧ (record100 1 1 true).changeCount = s.maps.current.count ∧
      (record100 1 1 true).entryCount = s.maps.current.entryCount ∧ s.maps.next.state = .none ∧
      b.maps.next.state ≠ .none ∧ atOrAfter (record100 2 2 false).count b.maps.next.changeFrame = true ∧
      (record100 2 2 false).changeCount = b.maps.next.count ∧ (record100 2 2 false).entryCount = b.maps.next.entryCount ∧
      (record100 1 1 false).changeCount ≠ b.maps.next.count ∧
      (record100 1 1 false).changeCount = b.maps.current.count ∧
      (record100 1 1 false).entryCount = b.maps.current.entryCount ∧ b.maps.marker.isSome = true ∧
      ((b.maps.marker.map (·.streams)) = some [3, 9, 12] ∧ (contextOf b 3).checkpoint = .held copy0 ∧
        (contextOf b 9).checkpoint = .held copy0 ∧ (contextOf b 12).checkpoint = .pending ∧
        (∃ j ∈ b.jsc.jobs, j.stream = 9 ∧ underWay j = true) ∧ ∀ j ∈ b.jsc.jobs, j.stream ≠ 3) :=
  ⟨awaiting_completes _ _ (awake_of_listening _ rfl rfl) rfl rfl rfl rfl,
    awaiting_completes _ _ (awake_of_listening _ rfl rfl) rfl rfl rfl rfl,
    ⟨awake_of_listening _ rfl rfl, rfl, .inr ⟨rfl, rfl⟩, rfl, rfl, rfl, rfl, by decide +kernel⟩, by decide +kernel⟩

theorem witness_FrameRecordLocks :
    let f := { frame0 with named := false }
    let s := withControl (timed .provisional f) 47 (List.replicate 47 0)
    Awake s ∧ (laneOf s 1).state = .aligned ∧ s.ftr.control.marked = true ∧ s.ftr.sync = .provisional ∧
      s.ftr.frame = some f ∧ isReceived f = true ∧ f.recordSeen = false ∧ s.ftr.control.pairing = .current ∧
      s.ftr.control.words < 383 ∧ (s.ftr.control.words + 1) % 48 = 0 ∧ s.ftr.control.block.length = 47 ∧
      frameRecordValid record5 = true ∧ s.ftr.expected = some record5.ensemble ∧ f.controlEnded = false ∧
      Awake (ended s) ∧ (ended s).ftr.sync = .provisional ∧ (ended locked).ftr.sync = .locked ∧
      (ended s).ftr.frame = some over0 := by
  unfold Awake Settled; decide +kernel

theorem witness_SlipAbandonsWork :
    let f := { frame0 with kind := .trial }
    let t := awaiting (timed .holdover f)
    locked.ftr.sync = .locked ∧ locked.ftr.expected = some record5.ensemble ∧ record5.count ≠ locked.ftr.count ∧
      CompletesBlock (awaiting locked) 1 frame0 ∧ frame0.recordSeen = false ∧ frameRecordValid record5 = true ∧
      CompletesBlock t 1 f ∧ f.recordSeen = false ∧ t.ftr.sync = .holdover ∧ f.kind = .trial ∧ f.failed = false ∧
      t.ftr.expected = some record5.ensemble ∧ (record100 1 1 false).count = t.ftr.count ∧
      frameRecordValid { record5 with ensemble := 7 } = true ∧ t.ftr.expected ≠ some { record5 with ensemble := 7 }.ensemble := by
  unfold CompletesBlock Awake Settled; decide +kernel

theorem witness_MarkerEntersProvisional :
    Awake up ∧ (laneOf up 0).state = .aligned ∧ untimed up ∧ up.ftr.control.pairing ≠ .next ∧
      (laneOf up 1).state = .aligned := by
  unfold Awake Settled untimed; decide +kernel

/-- Both ends of the window, and the instants just outside it; a RUNNING, JOINED station; HOLDOVER at its last count with
and without an event of R12 to act; and that event after the payload end. -/
theorem witness_MarkerInWindowBeginsFrame :
    let s := linkIs locked .joined
    let f := { frame0 with kind := .flywheel, fileAt := some 70000000 }
    let h := { timed .holdover f with ftr := { (timed .holdover f).ftr with flywheel := 41 } }
    let e := { h with ftr := { h.ftr with nextEnded := true } }
    let finished := { frame0 with payloadEnded := true }
    Awake s ∧ (laneOf s 0).state = .aligned ∧ s.ftr.sync = .locked ∧ s.mod.mode = .running ∧ s.lnk.state = .joined ∧
      s.ftr.marker = some 72000000 ∧ s.ftr.control.pairing ≠ .next ∧
      (72000000 ≤ max s.now 70000000 + 2000000 ∧ max s.now 74000000 ≤ 72000000 + 2000000) ∧
      ¬72000000 ≤ max s.now 69999999 + 2000000 ∧ ¬max s.now 74000001 ≤ 72000000 + 2000000 ∧
      Awake h ∧ h.ftr.sync = .holdover ∧ h.ftr.flywheel < 42 ∧ h.ftr.frame = some f ∧ f.kind ≠ .trial ∧
      h.ftr.nextEnded = false ∧ h.ftr.control.pairing ≠ .next ∧ h.ftr.marker = some 72000000 ∧
      Awake e ∧ e.ftr.nextEnded = true ∧ e.ilm.fill = none ∧
      (withFrame locked finished).ftr.frame = some finished ∧ finished.payloadEnded = true := by
  unfold Awake Settled; decide +kernel

theorem witness_WindowClosesIntoHoldover :
    let f := { frame0 with kind := .flywheel, fileAt := some 70000000 }
    let s := { timed .holdover f with ftr := { (timed .holdover f).ftr with flywheel := 41, nextEnded := true } }
    Awake locked ∧ locked.ftr.marker = some 72000000 ∧ 72000000 + 2000000 ≤ max locked.now 74000000 ∧
      locked.ftr.sync = .locked ∧ Awake s ∧ s.ftr.sync = .holdover ∧ s.ftr.flywheel < 42 ∧ s.ftr.frame = some f ∧
      f.kind ≠ .trial ∧ Awake (timed .provisional frame0) ∧ (timed .provisional frame0).ftr.sync = .provisional := by
  unfold Awake Settled; decide +kernel

theorem witness_FlywheelFrameFiledErased :
    let f := { frame0 with kind := .ended, fileAt := some 70000000 }
    Awake (timed .holdover f) ∧ (timed .holdover f).ftr.frame = some f ∧ f.named = true ∧ f.kind = .ended ∧
      f.payloadEnded = false ∧ f.fileAt = some 70000000 ∧ 70000000 ≤ max (timed .holdover f).now 70000000 := by
  unfold Awake Settled; decide +kernel

theorem witness_EntryToLostClears :
    let s := { timed .holdover frame0 with ftr := { (timed .holdover frame0).ftr with flywheel := 42 } }
    Awake s ∧ s.ftr.sync = .holdover ∧ s.ftr.flywheel = 42 ∧ s.ftr.marker = some 72000000 ∧
      72000000 ≤ max s.now 70000000 + 2000000 := by
  unfold Awake Settled; decide +kernel

theorem witness_ReleaseInstantIssued :
    let s := { locked with ftr := { locked.ftr with releases := [(93, 5), (94, 6)] } }
    Awake s ∧ s.ftr.releases = (93, 5) :: [(94, 6)] ∧ 5 ≤ max s.now 5 := by
  unfold Awake Settled; decide +kernel

/-- The last cell of the last grain of a slot that holds its frame, and a slot that holds none. -/
theorem witness_SpanReadServesDelays :
    let slot : Slot := { tag := some 0, received := true, whole := true, cells := List.replicate 7200 0 }
    let s := { up with ilm := { up.ilm with slots := up.ilm.slots.set 0 slot } }
    (88 : Nat) < 1 * 96 ∧ (s.ilm.slots.get (Fin.ofNat 8 ((0 : FrameCount) + BitVec.ofNat 12 (5 * (88 % 8) % 8)).toNat)).tag =
        some 0 ∧
      slot.received = true ∧ slot.cells.length = 7200 ∧ 599 + 1 ≤ 600 ∧ (up.ilm.slots.get 0).tag ≠ some (0 : FrameCount) :=
  ⟨by decide, rfl, rfl, List.length_replicate, by decide, by decide⟩

theorem witness_LoadedContextBeginsDecoding :
    let j := { job3 with speculative := true }
    let s := busy locked job3 (.loading 7) []
    let p := checkpointIs (busy locked j (.loading 7) []) 3 .pending
    Awake s ∧ engineJob s 1 = some job3 ∧ (engineOf s 1).phase = .loading 7 ∧ 7 ≤ max s.now 7 ∧
      (engineOf s 1).dropAtEnd = false ∧ ¬(job3.speculative = true ∧ (contextOf s 3).checkpoint = .pending) ∧
      Awake p ∧ engineJob p 1 = some j ∧ (engineOf p 1).phase = .loading 7 ∧ (engineOf p 1).dropAtEnd = false ∧
      (contextOf p 3).checkpoint = .pending := by
  unfold Awake Settled; decide +kernel

theorem witness_DecodeEndStoresOrDrops :
    let s := withCursor (busy locked job3 (.decoding 7) cleanSpan) (cursor3 none .none)
    let o := outcomeOf job3 cleanSpan foundGood 7
    let k := { job3 with discard := true }
    let u := withCursor (busy locked k (.decoding 7) cleanSpan) (cursor3 none .none)
    (Awake s ∧ engineJob s 1 = some job3 ∧ (engineOf s 1).phase = .decoding 7 ∧ 7 ≤ max s.now 7 ∧
      (engineOf s 1).dropAtEnd = false ∧ (contextOf s 3).checkpoint = .none ∧ s.mod.mode = .running ∧
      isLate s job3 = false ∧ recordOf s 3 93 = none ∧ s.pst.records.length < 48 ∧ isTraced s 3 = false ∧
      pagesFor o.parcel.length ≤ s.pst.freePages.length ∧ unusableCopy o.pass o.saturated = false ∧
      max s.now 7 < job3.release + (1023 - o.score) * 50000) ∧
    Awake u ∧ engineJob u 1 = some k ∧ (engineOf u 1).phase = .decoding 7 ∧ u.mod.mode ≠ .quiescing ∧
      k.discard = true ∧ isTraced u 3 = false ∧
      Awake (checkpointIs u 3 (.restoring copy0 true)) ∧
      (contextOf (checkpointIs u 3 (.restoring copy0 true)) 3).checkpoint = .restoring copy0 true ∧
      ∀ o ∈ u.jsc.jobs, o.stream = 3 → o.frame = 93 := by
  unfold Awake Settled; decide +kernel

/-- A passing copy, one with every cell erased, and a failing one whose raw figure is negative. -/
theorem witness_ScoreFollowsCounts :
    (outcomeOf job3 cleanSpan foundGood 7).pass = true ∧ 0 < cleanSpan.length ∧
    (let e := List.replicate 96 (8 : Cell); e.length - e.countP (fun c => c == (8 : Cell)) = 0) ∧
    (let e := (7 : Cell) :: List.replicate 95 8
     (outcomeOf job3 e { foundGood with code := [true] } 7).pass = true ∧
     (outcomeOf job3 e { foundGood with code := [true], bytes := [1, 2, 3] } 7).score = 0) := by
  decide +kernel

/-- Of the 190 bytes of frame 700: past the end, with 2 bytes left, at a byte that is no header, at the last unit, and at
the first, which another follows. -/
theorem witness_UnitWalkFollowsHeaders :
    let a := payloadOf 190 [(40, 96), (136, 80)]
    a.length ≤ 190 ∧ 188 < a.length ∧ a.length - 188 < 3 ∧ 187 + 3 ≤ a.length ∧ a[187]? ≠ some 0x5C ∧
      136 + 3 ≤ a.length ∧ a[136]? = some 0x5C ∧ 4 ≤ headerLength a 136 ∧ a.length ≤ 136 + headerLength a 136 ∧
      40 + 3 ≤ a.length ∧ a[40]? = some 0x5C ∧ 4 ≤ headerLength a 40 ∧ 40 + headerLength a 40 < a.length := by
  decide +kernel

theorem witness_PagesHoldTheParcel :
    [(3 : Fin 256), 5].Nodup ∧ (List.replicate 512 (1 : Byte)).length ≤ 256 * 2 ∧ (4 : Fin 256) ∉ [(3 : Fin 256), 5] := by
  decide +kernel

theorem witness_FreeingARecordIsOneAct :
    recordOf (withRecord locked (record3 .queued none none)) 3 93 = some (record3 .queued none none) := by decide +kernel

theorem witness_OfferAndDiscardInstants :
    let r := record3 .waiting (some 5) none
    let s (f : Option FrameCount) := withCursor (withRecord locked r) (cursor3 f .none)
    let h := record3 .held none (some 5)
    (Awake (s none) ∧ recordOf (s none) 3 93 = some r ∧ r.state = .waiting ∧ 5 ≤ max (s none).now 5 ∧
      cursorOf (s none) 3 = some (cursor3 none .none) ∧ RoomFor (s none) .parcel (some 3) (some 93)) ∧
    cursorOf (s (some 93)) 3 = some (cursor3 (some 93) .none) ∧ cursorOf (s (some 94)) 3 = some (cursor3 (some 94) .none) ∧
    Awake (withRecord locked h) ∧ recordOf (withRecord locked h) 3 93 = some h := by
  unfold Awake Settled RoomFor; decide +kernel

/-- The last clause with nothing of the frame held, with a job of it, and with an unusable HELD record of it. -/
theorem witness_DeadlineAnswered :
    let s := withCursor locked (cursor3 (some 93) (.running 5))
    let h := { record3 .held none (some 5) with pass := false, saturated := true }
    Awake s ∧ cursorOf s 3 = some (cursor3 (some 93) (.running 5)) ∧ 5 ≤ max s.now 5 ∧
      (modeIs s .quiescing none).mod.mode = .quiescing ∧ s.mod.mode ≠ .quiescing ∧ s.mod.mode ≠ .quiesced ∧
      queued s .parcel (some 3) (some 93) = false ∧ RoomFor s .gap (some 3) (some 93) ∧
      recordOf s 3 93 = none ∧ jobOf s 3 93 = none ∧
      (jobOf (setJobs s [job3]) 3 93).isSome = true ∧ recordOf (setJobs s [job3]) 3 93 = none ∧
      recordOf (withRecord s h) 3 93 = some h ∧ h.state = .held ∧ usableRecord h = false := by
  unfold Awake Settled RoomFor; decide +kernel

/-- Heard or own, PARCEL or GAP; the cursor stands at the frame, is UNSET, or stands elsewhere. -/
theorem witness_CompletedCopyResolvesFrame :
    let s := withCursor locked (cursor3 (some 93) .armed)
    let p := sending locked (entryOf .parcel (some 3) (some 93) 323 (.parcel none { units := [], carryOut := some 9, resync := false, overflow := false }) 4) []
    let g := sending locked (entryOf .gap (some 3) (some 93) 0 (.gap .late) 4) []
    Awake s ∧ Heard s .parcel parcelHeard ∧ streamOfByte parcelHeard.header.stream = 3 ∧
      frameOfField parcelHeard.header.frame = 93 ∧ carryOfField (word16 parcelHeard.body 8) = some 9 ∧
      Heard s .gap gapHeard ∧ frameOfField gapHeard.header.frame = 93 ∧
      (p.lnk.attempt.map (fun a => (a.kind, a.stream, a.frame, a.carryOut))) = some (.parcel, some 3, some 93, some 9) ∧
      (g.lnk.attempt.map (fun a => (a.kind, a.stream, a.frame))) = some (.gap, some 3, some 93) ∧
      cursorOf s 3 = some (cursor3 (some 93) .armed) := by
  unfold Awake Settled Heard; decide +kernel

theorem witness_StatusTimerOffersStatus :
    let s := { up with mod := { up.mod with statusTimer := some 5 } }
    Awake s ∧ s.mod.statusTimer = some 5 ∧ 5 ≤ max s.now 5 ∧ s.mod.mode = .running ∧ RoomFor s .status none none ∧
      (modeIs s .restarting none).mod.mode = .restarting := by
  unfold Awake Settled RoomFor; decide +kernel

theorem witness_NoticeHoldOffQueuesMap :
    let s := linkIs { up with maps := { up.maps with holdOff := some 5 } } .joined
    let u := { s with maps := { s.maps with wantCurrent := true } }
    Awake s ∧ s.maps.holdOff = some 5 ∧ s.maps.wantCurrent = false ∧ s.maps.wantNext = false ∧ Awake u ∧
      u.maps.wantCurrent = true ∧ u.mod.mode = .running ∧ u.lnk.state = .joined ∧ RoomFor u .map none none := by
  unfold Awake Settled RoomFor; decide +kernel

/-- The longest body, and a good lane word of every kind. -/
theorem witness_WireFormatsReadBack :
    (List.replicate 6073 (0 : Byte)).length = (BitVec.ofNat 16 6073).toNat ∧ LaneWord.marker ≠ .corrupt :=
  ⟨List.length_replicate.trans (by decide), by decide⟩

/-- Rivals of an equal and of a higher field. -/
theorem witness_ContentionTakesHead_rivals : ∀ r ∈ [(0x4000 : ArbField), 0x82E8], (0x4000 : ArbField) ≤ r := by
  intro r hr
  rcases List.mem_cons.1 hr with rfl | hr
  · decide
  · rw [List.mem_singleton.1 hr]; decide

theorem witness_ContentionTakesHead :
    let e := entryOf .status none none 0 .status 4
    let s := { linkIs up .joined with lnk := { (linkIs up .joined).lnk with queue := [e] } }
    let p := entryOf .parcel (some 3) (some 93) 323 (.parcel none { units := [], carryOut := some 9, resync := false, overflow := false }) 4
    let g := entryOf .gap (some 3) (some 93) 0 (.gap .late) 4
    let v (e : Entry) := { withRecord s (record3 .queued none none) with lnk := { s.lnk with queue := [e] } }
    Awake s ∧ s.lnk.state = .joined ∧ s.lnk.attempt = none ∧ s.lnk.queue = e :: [] ∧
      e.arb = 0x4000 ∧ (0x3FFF : ArbField) < 0x4000 ∧ up.lnk.state ≠ .joined ∧
      (Awake (v p) ∧ (v p).lnk.state = .joined ∧ (v p).lnk.attempt = none ∧ (recordOf (v p) 3 93).isSome = true) ∧
      Awake (v g) ∧ (v g).lnk.state = .joined := by
  unfold Awake Settled; decide +kernel

/-- An entry with counts 2 and 3, a STATUS rewritten meanwhile, a PARCEL at its fourth failure. -/
theorem witness_AttemptEndSettlesEntry :
    let e := { entryOf .status none none 0 .status 4 with attempts := 2 }
    let w := { e with rewritten := true }
    let p := { entryOf .parcel (some 3) (some 93) 323 (.parcel none { units := [], carryOut := some 9, resync := false, overflow := false }) 4 with attempts := 3 }
    let s (e : Entry) := sending locked e [e]
    (Awake (s e) ∧ (s e).lnk.attempt = some (takeMessage locked e) ∧
      (s e).lnk.queue.find? (fun k => k.uid == (takeMessage locked e).uid) = some e ∧
      ((s e).lnk.queue.map (·.uid)).Nodup ∧ e.attempts < 3 ∧ (takeMessage locked e).kind = e.kind) ∧
    (s w).lnk.queue.find? (fun k => k.uid == (takeMessage locked w).uid) = some w ∧ w.kind = .status ∧
    (s p).lnk.queue.find? (fun k => k.uid == (takeMessage locked p).uid) = some p ∧ p.attempts = 3 ∧ p.rewritten = false := by
  unfold Awake Settled; decide +kernel

theorem witness_DamagedMessageRejected :
    Awake up ∧ isReceiver up 0 = true ∧ judge [false, true] = none ∧ (judge releaseBits).isSome = true ∧
      isReceiver { up with lnk := { up.lnk with receivingFrom := 1 } } 0 = false := by
  unfold Awake Settled; decide +kernel

theorem witness_FilterDiscardsAndCounts :
    Awake up ∧ isReceiver (linkIs up .offline) gapHeard.start = false ∧ isReceiver up gapHeard.start = true ∧
      bodyWhole { gapHeard with body := [] } = false ∧ bodyWhole gapHeard = true ∧ kindOfCode 0x08 = none ∧
      bodyWhole { gapHeard with arb := 0 } = true ∧ kindOfCode 0x02 = some .gap ∧
      filterPasses .gap { gapHeard with arb := 0 } = false := by
  unfold Awake Settled; decide +kernel

/-- No DUPLICATE event before, one 10 s ago (the last instant at which a second one counts), one longer ago. -/
theorem witness_DuplicateEventFaults :
    let s (d : Option Instant) := { up with lnk := { up.lnk with duplicateAt := d } }
    Awake (s none) ∧ (s none).lnk.state ≠ .offline ∧ (s none).lnk.permanent = false ∧ Awake (s (some 1)) ∧
      max (s (some 1)).now 10000000001 ≤ 1 + 10000000000 ∧ 1 + 10000000000 < max (s (some 1)).now 10000000002 ∧
      (sending locked (entryOf .status none none 0 .status 4) []).lnk.attempt.isSome = true ∧
      isReceiver (stationIs up 1) gapHeard.start = true ∧ bodyWhole gapHeard = true ∧ filterPasses .gap gapHeard = true ∧
      gapHeard.header.source.toNat = (stationIs up 1).mod.straps.station.val := by
  unfold Awake Settled; decide +kernel

theorem witness_StuckLineRecovers :
    let s := { linkIs up .fault with lnk := { (linkIs up .fault).lnk with stuck := true, recoveryTimer := some 5 } }
    Awake up ∧ up.lnk.permanent = false ∧ up.lnk.state ≠ .offline ∧ Awake s ∧ s.lnk.permanent = false ∧
      s.lnk.stuck = true ∧ s.lnk.state = .fault ∧ s.lnk.recoveryTimer = some 5 ∧ 5 ≤ max s.now 5 := by
  unfold Awake Settled; decide +kernel

theorem witness_JoinTimerJoins :
    Awake up ∧ up.lnk.state = .listening ∧ up.lnk.joinTimer = some 216000000 ∧ 216000000 ≤ max up.now 216000000 := by
  unfold Awake Settled; decide +kernel

theorem witness_AttemptsOnlyByJoinedContention :
    let e := entryOf .status none none 0 .status 4
    let s := { linkIs up .joined with lnk := { (linkIs up .joined).lnk with queue := [e] } }
    s.lnk.attempt = none ∧ (after (.contention 0 []) s).lnk.attempt.isSome = true := by decide +kernel

theorem witness_FaultsOutlastAllButPinReset :
    let s := { up with lnk := { up.lnk with state := .fault, faultRecord := .duplicate, permanent := true } }
    FaultSound s ∧ isPinReset (.lineStuck 5) = false ∧ s.lnk.permanent = true ∧ s.lnk.faultRecord ≠ .none := by
  unfold FaultSound; decide +kernel

theorem witness_StatusUpdatesPeer :
    Awake (stationIs locked 2) ∧ Heard (stationIs locked 2) .status statusHeard ∧
      (Fin.ofNat 8 statusHeard.header.source.toNat).val < (stationIs locked 2).mod.straps.station.val := by
  unfold Awake Settled Heard; decide +kernel

theorem witness_PeerAgesOut :
    let s := after (.status 0 (.heard statusHeard)) locked
    Awake s ∧ (s.sub.peers.get 1).isPresent = true ∧ (s.sub.peers.get 1).aging = some 216000000 ∧
      216000000 ≤ max s.now 216000000 := by
  unfold Awake Settled; decide +kernel

theorem witness_MapNoticeAdopted :
    Awake locked ∧ Heard locked .map badMapHeard ∧ noticeSound (noticeOf badMapHeard) = false ∧
      Heard locked .map mapHeard ∧ noticeSound (noticeOf mapHeard) = true ∧ (noticeOf mapHeard).isNext = false ∧
      (noticeOf mapHeard).entries ≠ [] ∧ locked.mod.mode ≠ .draining ∧ locked.maps.current.state = .none ∧
      locked.maps.next.state = .none := by
  unfold Awake Settled Heard; decide +kernel

/-- A table with room, a full table without the entry, and a table with it. -/
theorem witness_SubscribeAddsEntry :
    let full := withTable locked (List.replicate 16 { subscription9 with consumer := 5 })
    let held := withTable locked [subscription9]
    (Awake locked ∧ Heard locked .subscribe subscribeHeard ∧ locked.sub.table = [] ∧ streamOfByte subscribeHeard.header.stream = 9) ∧
    (Awake full ∧ (∀ h ∈ full.sub.table, ¬(h.stream = 9 ∧ h.consumer = subscribeHeard.header.source)) ∧
      16 ≤ full.sub.table.length) ∧
    Awake held ∧ (∃ h ∈ held.sub.table, h.stream = 9 ∧ h.consumer = subscribeHeard.header.source) ∧
      subscription9.asked =
        { stream := 9, consumer := subscribeHeard.header.source, requested := requestedClass subscribeHeard,
          effective := .background, trace := traceOption subscribeHeard, units := unitsOption subscribeHeard } := by
  unfold Awake Settled Heard; decide +kernel

theorem witness_ReleaseRemovesEntry :
    let held := withCursor (withTable locked [subscription9]) { cursor3 none .none with stream := 9 }
    Awake held ∧ Heard held .release releaseHeard ∧ streamOfByte releaseHeard.header.stream = 9 ∧
      (∃ h ∈ held.sub.table, h.stream = 9 ∧ h.consumer = releaseHeard.header.source) ∧
      (∀ h ∈ held.sub.table, h.stream = 9 → h.consumer = releaseHeard.header.source) ∧ (cursorOf held 9).isSome = true ∧
      locked.sub.table = [] ∧ Heard locked .release releaseHeard := by
  unfold Awake Settled Heard; decide +kernel

theorem witness_EnsembleChangeClears :
    Awake locked ∧ Heard locked .ensembleChange (request .ensembleChange [0x12, 0x34]) ∧
      locked.lnk.queue.countP (fun e => e.kind == .status) < 24 := by
  unfold Awake Settled Heard; decide +kernel

/-- A request from before the station's own attempt on the line is heard: ENSEMBLE_CHANGE, RESTART, RESUME. -/
theorem witness_requests_during_attempt :
    let e := entryOf .status none none 0 .status 4
    let s (m : Mode) := sending (later (modeIs locked m none) 3) e [e]
    (s .running).lnk.attempt.isSome = true ∧ Awake (s .running) ∧ Awake (s .quiescing) ∧
      Heard (s .running) .ensembleChange (request .ensembleChange [0x12, 0x34]) ∧
      Heard (s .running) .restart (request .restart [7]) ∧ Heard (s .quiescing) .resume (request .resume [7]) := by
  unfold Awake Settled Heard; decide +kernel

theorem witness_RestartClears :
    let m := request .restart [7]
    Awake locked ∧ Heard locked .restart m ∧ addressed locked m = true ∧ locked.mod.mode ≠ .draining ∧
      locked.lnk.state = .listening ∧ (linkIs locked .fault).lnk.state = .fault ∧
      Awake (modeIs locked .draining (some .running)) ∧ Heard (modeIs locked .draining (some .running)) .restart m ∧
      (Awake slotted93 ∧ Heard slotted93 .restart m ∧ slotted93.jsc.arrivals.length * (decodeSet slotted93).length ≤ 32 ∧
        (decodeSet slotted93).find? (fun p => p.1 == 3) = some (3, .foreground) ∧ recordedRelease slotted93 93 = some 72000005 ∧
        stillInSlots slotted93 93 = true ∧ (applicable slotted93.maps 93).usable = true ∧
        (applicable slotted93.maps 93).entryOf 3 = some (entry 3 0 true) ∧ cursorPast slotted93 3 93 = false) := by
  unfold Awake Settled Heard; decide +kernel

theorem witness_QuiesceStopsWork :
    let m := request .quiesce [0]
    Awake locked ∧ Heard locked .quiesce m ∧ addressed locked m = true ∧ locked.mod.mode = .running ∧
      allIdle locked = true ∧ RoomFor locked .quiesced none none ∧ Awake (modeIs locked .quiesced none) ∧
      (modeIs locked .quiesced none).mod.mode ≠ .running := by
  unfold Awake Settled Heard RoomFor; decide +kernel

theorem witness_ResumeRuns :
    let m := request .resume [7]
    Awake (modeIs locked .quiesced none) ∧ Heard (modeIs locked .quiesced none) .resume m ∧
      addressed (modeIs locked .quiesced none) m = true ∧ Awake (modeIs locked .draining (some .quiescing)) ∧
      Heard (modeIs locked .draining (some .quiescing)) .resume m ∧ Awake locked ∧ Heard locked .resume m := by
  unfold Awake Settled Heard; decide +kernel

theorem witness_OwnAcknowledgementsEndModes :
    let d := entryOf .drained none none 0 .empty 4
    let q := entryOf .quiesced none none 0 .empty 4
    let s (back : Mode) := sending (modeIs locked .draining (some back)) d [d]
    let u := sending (modeIs locked .quiescing none) q [q]
    let passive (k : MsgKind) (x : Byte) (f : BitVec 16) (b : List Byte) := Heard locked k (message k 1 x f 0 b)
    (Awake (s .running) ∧ ((s .running).lnk.attempt.map (fun a => (a.uid, a.kind))) = some (4, .drained) ∧
      (s .running).lnk.queue.find? (fun k => k.uid == 4) = some d ∧ d.rewritten = false ∧
      (s .running).mod.mode = .draining ∧ (s .running).mod.returnMode = some .running) ∧
    (Awake (s .quiesced) ∧ (s .quiesced).mod.returnMode = some .quiesced) ∧
    (Awake u ∧ (u.lnk.attempt.map (fun a => (a.uid, a.kind))) = some (4, .quiesced) ∧
      u.lnk.queue.find? (fun k => k.uid == 4) = some q ∧ u.mod.mode = .quiescing) ∧
    (Awake (sending locked d []) ∧ (sending locked d []).lnk.attempt.map (·.kind) = some .drained ∧
      (sending locked d []).lnk.queue.find? (fun k => k.uid == 4) = none ∧ Awake (sending locked q []) ∧
      (sending locked q []).lnk.attempt.map (·.kind) = some .quiesced) ∧
    passive .trace 3 93 [1, 0, 5, 1, 0, 0, 9] ∧ passive .drained 0xFF 0xFFFF [] ∧ passive .quiesced 0xFF 0xFFFF [] := by
  unfold Awake Settled Heard; decide +kernel

theorem witness_StrapsHoldAndCountersRise :
    isPinReset (.idle 0 0) = false ∧ ∃ u, exec (.idle 0 0) up = .next u := ⟨by decide, _, rfl⟩

/-! ### What each command does, from the rule named -/

/-- R2, R174: lane 1 is OFF in single-lane mode; the join timer runs 216 ms. -/
theorem test_pin_reset_release :
    let u := after (.pinResetRelease 9 { station := 2, singleLane := true, termination := false }) locked
    (laneOf u 0).state = .acquire ∧ (laneOf u 1).state = .off ∧ u.lnk.joinTimer = some 216000009 ∧ u.mod.straps.station = 2 := by
  decide +kernel
/-- R175. -/
theorem test_pin_reset_assert :
    (after (.pinResetAssert 9) locked).lnk.state = .offline ∧ (after (.pinResetAssert 9) locked).ftr.sync = .search := by
  decide +kernel
/-- R3: the auto-zero takes 0.25 ms and writes the polarity. -/
theorem test_equaliser_auto_zero :
    (laneOf (after (.equaliserAutoZero 249999 0 .negative) State.reset) 0).polarity = none ∧
    (laneOf (after (.equaliserAutoZero 250000 0 .negative) State.reset) 0).polarity = some .negative := by decide +kernel
/-- R3: no lock is taken before the auto-zero is done. -/
theorem test_lock_report :
    (laneOf (after (.lockReport 1000000 0) State.reset) 0).state = .acquire ∧
    (laneOf (after (.lockReport 1000000 0) (after (.equaliserAutoZero 250000 0 .negative) State.reset)) 0).state = .track := by
  decide +kernel
/-- R3: a lane that times out after 2 ms starts a fresh auto-zero, and keeps its polarity until that completes. -/
theorem test_acquire_timeout :
    let u := after (.acquireTimeout 2000000 0) (after (.equaliserAutoZero 250000 0 .negative) State.reset)
    (laneOf u 0).stage = .autoZero ∧ (laneOf u 0).autoZeroEnd = some 2250000 ∧ (laneOf u 0).polarity = some .negative := by
  decide +kernel
/-- R4, R5: TRACK to ALIGNED begins the one-shot tune. -/
theorem test_word_boundary_found :
    let u := after (.wordBoundaryFound 5 1) (setLane State.reset 1 { Lane.held with state := .track })
    (laneOf u 1).state = .aligned ∧ (laneOf u 1).tune = .oneShot := by decide +kernel
/-- R5, R12: the payload lane is lost in LOCKED; the frame is to be filed at its payload offset. -/
theorem test_loss_of_lock :
    let u := after (.lossOfLock 10000000 0) locked
    (laneOf u 0).state = .acquire ∧ u.ftr.sync = .holdover ∧ u.ftr.flywheel = 1 ∧
      u.ftr.frame.bind (·.fileAt) = some 70000000 := by decide +kernel
/-- R5: the one-shot tune lasts 256 words. -/
theorem test_one_shot_tune_end :
    let s (n : Nat) := setLane up 0 { upLane with tune := .oneShot, tuneWords := n }
    (laneOf (after (.oneShotTuneEnd 5 0) (s 255)) 0).tune = .oneShot ∧
    (laneOf (after (.oneShotTuneEnd 5 0) (s 256)) 0).tune = .continuous := by decide +kernel
/-- R2, R46: a payload word on the payload lane is gathered; one marked CONTROL there is dropped. -/
theorem test_cell_word :
    (after (.cellWord 5 0 .payload 0x12345678 .padding) (withFill locked [])).ilm.fill = some [0x12345678] ∧
    (after (.cellWord 5 0 .control 0x12345678 .padding) (withFill locked [])).ilm.fill = some [] := by decide +kernel
/-- R9, R17: a marker in SEARCH; T lies 72 ms on. -/
theorem test_frame_start_marker :
    (after (.frameStartMarker 5 0) up).ftr.sync = .provisional ∧ (after (.frameStartMarker 5 0) up).ftr.marker = some 72000005 ∧
    (after (.frameStartMarker 5 0) up).ftr.frame.map (·.named) = some false := by decide +kernel
/-- R11: the window is closed 1 ns after T + 2 ms. -/
theorem test_frame_start_marker_window :
    (after (.frameStartMarker 74000000 0) locked).ftr.count = 101 ∧
    (after (.frameStartMarker 74000001 0) locked).ftr.count = 100 := by decide +kernel
/-- R8, R15: a flywheel frame begins at T + 2 ms, and a marker on lane 1 up to 2 ms later is paired with it. -/
theorem test_lane_one_marker_of_flywheel_frame :
    let u := after (.markerWindowClose 74000000) locked
    u.ftr.frame.map (·.begun) = some 74000000 ∧
      (after (.frameStartMarker 76000000 1) u).ftr.control.pairing = .current ∧
      (after (.frameStartMarker 76000001 1) u).ftr.control.pairing = .next := by decide +kernel
/-- R12: after the payload end the event acts on the next frame, which no marker makes a trial frame. -/
theorem test_front_end_status_after_payload :
    let s := after (.frontEndStatus 5 0 false 77) (withFrame locked { frame0 with payloadEnded := true })
    let u := after (.frameStartMarker 72000000 0) s
    s.ftr.flywheel = 1 ∧ u.ftr.flywheel = 1 ∧ u.ftr.frame.map (·.kind) = some .ended ∧
      u.ftr.frame.bind (·.fileAt) = some 142000000 := by decide +kernel
/-- R6, R12: an ABSENT report on lane 0 in LOCKED is an event of R12; on lane 1 it is not. -/
theorem test_front_end_status :
    (after (.frontEndStatus 5 0 false 77) locked).ftr.sync = .holdover ∧
    (after (.frontEndStatus 5 1 false 77) locked).ftr.sync = .locked ∧
    (laneOf (after (.frontEndStatus 5 1 false 77) locked) 1).quality = 77 := by decide +kernel
/-- R1: any good word ends the corrupt run. -/
theorem test_idle : (laneOf (after (.idle 5 0) (setLane up 0 { upLane with corruptRun := 3 })) 0).corruptRun = 0 := by
  decide +kernel
/-- R1. -/
theorem test_corrupt_control_word : (laneOf (after (.corruptControlWord 5 0) up) 0).corruptRun = 1 := by decide +kernel
/-- R5: the fourth in a run. -/
theorem test_fourth_corrupt_control_word :
    (laneOf (after (.fourthCorruptControlWord 5 1) (setLane up 1 { upLane with corruptRun := 3 })) 1).state = .track := by
  decide +kernel
/-- R14: the missed frame is named, and is to be filed at T plus the payload offset. -/
theorem test_marker_window_close :
    let u := after (.markerWindowClose 74000000) locked
    u.ftr.sync = .holdover ∧ u.ftr.count = 101 ∧ u.ftr.flywheel = 1 ∧ u.ftr.marker = some 144000000 ∧
      u.ftr.frame.bind (·.fileAt) = some 142000000 := by decide +kernel
/-- R45, R48, R19: frame 100 goes to slot 4, ERASED; R(93) is 72 ms after A(100). -/
theorem test_flywheel_payload_end :
    let u := after (.flywheelPayloadEnd 142000000) (timed .holdover { frame0 with kind := .flywheel, fileAt := some 142000000 })
    (u.ilm.slots.get 4).tag = some 100 ∧ (u.ilm.slots.get 4).received = false ∧ u.ftr.releases = [(93, 214000000)] := by
  decide +kernel
/-- R17: at count 41 the window's opening is no entry to LOST. -/
theorem test_entry_to_lost :
    let s (n : Nat) := { timed .holdover frame0 with ftr := { (timed .holdover frame0).ftr with flywheel := n } }
    (after (.entryToLost 70000000) (s 42)).ftr.sync = .lost ∧ (after (.entryToLost 70000000) (s 41)).ftr.sync = .holdover ∧
      (after (.entryToLost 70000000) (s 42)).mod.statusTimer = some 142000000 := by decide +kernel
/-- R154, R161: the deadline lies 60 ms after the release instant. -/
theorem test_release_instant :
    let s := withCursor { locked with ftr := { locked.ftr with releases := [(93, 5)] } } (cursor3 (some 93) .armed)
    cursorOf (after (.releaseInstant 5 93) s) 3 = some (cursor3 (some 93) (.running 60000005)) := by decide +kernel
/-- R70: decoding takes grains × 0.45 ms from the end of the load. -/
theorem test_context_move_complete :
    (engineOf (after (.contextMoveComplete 7 1) (busy locked { job3 with grains := 48 } (.loading 7) [])) 1).phase =
      .decoding 21600007 := by decide +kernel
/-- R78: at the end of a discarded job's decoding the context becomes the copy, and the entry PENDING where a request was
opened meanwhile. -/
theorem test_decode_end_restores :
    let s := checkpointIs (busy locked { job3 with discard := true } (.decoding 7) []) 3 (.restoring copy0 true)
    contextOf (after (.decodeEnd 7 1 foundGood) s) 3 =
      { next := 94, metrics := List.replicate 64 5, warm := true, location := .table, checkpoint := .pending } := by decide +kernel
/-- R87, R100: a passing copy with no erasure scores 1023, and so is offered at once; with its stream UNSET it is queued. -/
theorem test_decode_end :
    let s := withCursor (busy locked job3 (.decoding 7) cleanSpan) (cursor3 none .none)
    let u := after (.decodeEnd 2000 1 foundGood) s
    u.pst.records.map (fun r => (r.score, r.pass, r.state, r.offerAt)) = [(1023, true, .queued, some 1000)] ∧
      u.lnk.queue.map (fun e => (e.kind, e.arb)) = [(.parcel, 0x8000)] ∧ u.jsc.jobs = [] := by decide +kernel
/-- R103, R116: class 4, rank 1023 - 700. -/
theorem test_offer_instant :
    let s := withCursor (withRecord locked (record3 .waiting (some 16150000) none)) (cursor3 none .none)
    (after (.offerInstant 16150000 3 93) s).lnk.queue.map (·.arb) = [35352] ∧
      (after (.offerInstant 16149999 3 93) s).lnk.queue = [] := by decide +kernel
/-- R107, R101: the page joins the tail of the free-page list. -/
theorem test_discard_instant :
    let u := after (.discardInstant 72000000 3 93) (withRecord locked (record3 .held none (some 72000000)))
    u.pst.records = [] ∧ u.pst.freePages.getLast? = some 0 ∧ u.pst.freePages.length = 256 := by decide +kernel
/-- R167: the timer restarts at 72 ms. -/
theorem test_status_timer :
    let u := after (.statusTimer 72000000) State.reset
    u.mod.statusTimer = some 144000000 ∧ u.lnk.queue.map (fun e => (e.kind, e.arb)) = [(.status, 16384)] := by decide +kernel
/-- R41, R116: a map of no entries has rank 16; the hold-off lasts 4 frame periods. -/
theorem test_notice_hold_off :
    let s := linkIs { up with maps := { up.maps with holdOff := some 5, wantCurrent := true } } .joined
    (after (.noticeHoldOff 5) s).lnk.queue.map (·.arb) = [3 * 8192 + 16 * 8] ∧
      (after (.noticeHoldOff 5) s).maps.holdOff = some 288000005 := by decide +kernel
/-- R162: no own copy, no job: NOT_DECODED. -/
theorem test_deadline :
    let u := after (.deadline 5 3) (withCursor locked (cursor3 (some 93) (.running 5)))
    u.lnk.queue.map (·.body) = [.gap .notDecoded] ∧ u.dlv.cursors.map (·.deadline) = [.lapsed] := by decide +kernel
/-- R117, R134: attempt number 1, LOCKED (3), mode RUNNING (1). -/
theorem test_contention :
    let e := entryOf .status none none 0 .status 4
    let s := linkIs { locked with lnk := { locked.lnk with queue := [e] } } .joined
    ((after (.contention 5 [33512]) s).lnk.attempt.map (fun a => (a.header.attempt, a.header.sync, a.header.mode))) =
        some (1, 3, 1) ∧ (after (.contention 5 [16383]) s).lnk.attempt = none := by decide +kernel
/-- R119: the fourth failure drops the entry. -/
theorem test_attempt_end :
    let e := { entryOf .gap (some 3) (some 93) 0 (.gap .late) 4 with attempts := 3 }
    let u := after (.attemptEnd 5 true) (sending locked e [e])
    u.lnk.queue = [] ∧ u.mod.counters.linkDrops = 1 := by decide +kernel
/-- R118. -/
theorem test_reject : (after (.reject 5 0 (releaseBits.modify 40 (!·))) up).lnk.endSlot = .reject ∧
    (after (.reject 5 0 releaseBits) up).lnk.endSlot = .recessive := by decide +kernel
/-- R118: a station that is sending receives no message, but one from before its start bit (log 62). -/
theorem test_sender_is_no_receiver :
    let e := entryOf .gap (some 3) (some 93) 0 (.gap .late) 4
    isReceiver up 0 = true ∧ isReceiver (sending (later up 3) e [e]) 3 = false ∧
      isReceiver (sending (later up 3) e [e]) 2 = true := by decide +kernel
/-- R123: the second within 10 s is permanent. -/
theorem test_duplicate_event :
    let u := after (.duplicateEvent 5 .hearing) up
    u.lnk.faultRecord = .duplicate ∧ u.lnk.permanent = false ∧ u.lnk.recoveryTimer = some 10000005 ∧
      (after (.duplicateEvent 10000000005 .hearing) u).lnk.permanent = true := by decide +kernel
/-- R122: 10 ms after the line has gone recessive, LISTENING again. -/
theorem test_stuck_line :
    let u := after (.lineGoesRecessive 9) (after (.lineStuck 5) up)
    u.lnk.state = .fault ∧ u.lnk.faultRecord = .stuck ∧ u.lnk.recoveryTimer = some 10000009 ∧
      (after (.recoveryTimer 10000009) u).lnk.state = .listening := by decide +kernel
/-- R120, R179. -/
theorem test_join_timer :
    (after (.joinTimer 216000000) (modeIs up .restarting none)).mod.mode = .running ∧
    (after (.joinTimer 215999999) up).lnk.state = .listening ∧ (after (.joinTimer 216000000) up).lnk.state = .joined := by
  decide +kernel
/-- R146. -/
theorem test_peer_aging :
    let u := after (.peerAging 216000000 1) (after (.status 0 (.heard statusHeard)) locked)
    (u.sub.peers.get 1).isPresent = false ∧ (u.sub.peers.get 1).claims = [] := by decide +kernel
/-- R158: the cursor takes the PARCEL's carry-out. -/
theorem test_parcel :
    (after (.parcel 5 (.heard parcelHeard)) (withCursor locked (cursor3 (some 93) .armed))).dlv.cursors.map
      (fun c => (c.cursor, c.carryIn)) = [(some 94, some 9)] := by decide +kernel
/-- R158: after a GAP the carry-in is UNKNOWN; a GAP of another frame moves nothing. -/
theorem test_gap :
    let s := { cursor3 (some 93) .armed with carryIn := some 4 }
    (after (.gap 5 (.heard gapHeard)) (withCursor locked s)).dlv.cursors.map (fun c => (c.cursor, c.carryIn)) =
        [(some 94, none)] ∧
      (after (.gap 5 (.heard gapHeard)) (withCursor locked { s with cursor := some 94 })).dlv.cursors.map (·.cursor) =
        [some 94] := by decide +kernel
/-- R145: the fields of the notice. -/
theorem test_status :
    let p := (after (.status 5 (.heard statusHeard)) locked).sub.peers.get 1
    p.isPresent = true ∧ p.sync = .locked ∧ p.count = 101 ∧ p.curState = .complete ∧ p.claims = [9] ∧
      p.aging = some 216000005 := by decide +kernel
/-- R43: the carried entry, not own-marked. -/
theorem test_map :
    (after (.map 5 (.heard mapHeard)) locked).maps.current.entries =
      [{ id := 9, start := 10, grains := 4, profile := 3, kind := .unit, own := false }] := by decide +kernel
/-- R133. -/
theorem test_trace :
    after (.trace 5 (.heard (message .trace 1 3 93 0 [1, 0, 5, 1, 0, 0, 9]))) locked = locked.clocked 5 := by decide +kernel
/-- R178: this station's own DRAINED brings the return mode. -/
theorem test_drained :
    let e := entryOf .drained none none 0 .empty 4
    (after (.drained 5 .own) (sending (modeIs locked .draining (some .running)) e [e])).mod.mode = .running := by
  decide +kernel
/-- R181. -/
theorem test_quiesced :
    let e := entryOf .quiesced none none 0 .empty 4
    (after (.quiesced 5 .own) (sending (modeIs locked .quiescing none) e [e])).mod.mode = .quiesced := by decide +kernel

/-- The map, the table and the station of section 8.9 before its first event. -/
def head89 : State :=
  let entry (x : StreamId) (g : Nat) : MapEntry := { id := x, start := 0, grains := g, profile := 3, kind := .plain, own := true }
  let sub (x : StreamId) (c : Byte) (r : JobClass) : Subscription :=
    { stream := x, consumer := c, requested := r, effective := .background, trace := false, units := false }
  let m : MuxMap := { MuxMap.empty with state := .complete, entryCount := 5,
                                        entries := [entry 5 96, entry 9 48, entry 12 200, entry 30 150, entry 40 120] }
  let s := linkIs { locked with maps := { locked.maps with current := m } } .joined
  let t := [sub 5 4 .foreground, sub 9 4 .background, sub 12 5 .foreground, sub 5 5 .background, sub 30 4 .foreground]
  tableChange { s with sub := { s.sub with claimsOpen := true } } t

/-- SUBSCRIBE (40, 6) FOREGROUND, then (12, 5) BACKGROUND. -/
def first89 : State := after (.subscribe 5 (message .subscribe 6 40 0xFFFF 0 [1, 0])) head89
def second89 : State := after (.subscribe 6 (message .subscribe 5 12 0xFFFF 0 [2, 0])) first89

/-- Section 8.9: 40 is DEMOTED at a load of 446, and admitted again at 366, where 9 is claimed. -/
theorem test_subscribe :
    head89.sub.foregroundLoad = 446 ∧ first89.sub.foregroundLoad = 446 ∧
    (first89.sub.table.getLast?.map (·.effective)) = some .demoted ∧ second89.sub.foregroundLoad = 366 ∧
    second89.sub.claims = [9] := by decide +kernel
/-- Section 8.9: after the RELEASE of (5, 4) the load is 270 and the claims are 5 and 9, 144 grains. -/
theorem test_release :
    let u := after (.release 7 (message .release 4 5 0xFFFF 0 [])) second89
    u.sub.foregroundLoad = 270 ∧ u.sub.claims = [5, 9] ∧ u.sub.claimLoad = 144 := by decide +kernel

/-- R121: the link is LISTENING, and the attempt on the line runs on. -/
theorem test_restart_during_attempt :
    let e := entryOf .status none none 0 .status 4
    let u := after (.restart 5 (request .restart [0])) (sending (later (linkIs locked .joined) 3) e [e])
    u.lnk.state = .listening ∧ u.lnk.joinTimer = some 216000005 ∧ u.lnk.attempt.isSome = true := by decide +kernel
/-- R178: the DRAINED on the line is of an entry that a later ENSEMBLE_CHANGE has cleared; the new one waits. -/
theorem test_cleared_drained :
    let e := entryOf .drained none none 0 .empty 4
    let s := sending (later (modeIs locked .draining (some .running)) 3) e [e]
    let u := after (.attemptEnd 6 false) (after (.ensembleChange 5 (request .ensembleChange [0x12, 0x34])) s)
    u.mod.mode = .draining ∧ u.lnk.attempt = none ∧ u.lnk.queue.map (·.kind) = [.drained] := by decide +kernel
/-- R182: a QUIESCED on the line at RESUME completes and leaves the mode RUNNING. -/
theorem test_resume_during_attempt :
    let e := entryOf .quiesced none none 0 .empty 4
    let u := after (.resume 5 (request .resume [0])) (sending (later (modeIs locked .quiescing none) 3) e [e])
    u.mod.mode = .running ∧ (after (.attemptEnd 6 false) u).mod.mode = .running := by decide +kernel
/-- R8: words held for the next frame outlast SEARCH, one received there is discarded and counted, and they pass on as the
frame begins. -/
theorem test_held_words :
    let held : ControlPath := { pairing := .next, marked := true, words := 0, block := [], held := [some (7, .padding)] }
    let s := leaveFrames { locked with ftr := { locked.ftr with control := held } } .search
    let u := after (.cellWord 5 1 .control 8 .padding) s
    u.ftr.control.held = [some (7, .padding), none] ∧
      (after (.frameStartMarker 6 0) u).ftr.control =
        { held with pairing := .current, words := 2, block := [7], held := [] } := by decide +kernel
/-- R63, R32: a frame deferred 2,500 frames ago, or before a slip back, does not shut out those still in the slots (log 52). -/
theorem test_catch_up_from_afar :
    (catchUp slotted93 (93 - 2500)).jsc.jobs.map (fun j => (j.stream, j.frame)) = [(3, 93)] ∧
      (catchUp slotted93 94).jsc.jobs.map (fun j => (j.stream, j.frame)) = [(3, 93)] := by decide +kernel
/-- R81: the restart pass makes the job of frame 93, which begins COLD. -/
theorem test_restart_pass :
    (after (.restart 9 (request .restart [7])) slotted93).jsc.jobs.map (fun j => (j.stream, j.frame, j.source, j.started)) =
      [(3, 93, .cold, 9)] := by decide +kernel
/-- R107: an unusable copy, speculative too, takes no room from a live record; a usable one of that score does. -/
theorem test_unusable_copy_spares_live_records :
    let r := { record3 .waiting (some 9) none with score := 10 }
    let s := { withRecord locked r with pst := { (withRecord locked r).pst with freePages := [] } }
    let j := { job3 with stream := 9, speculative := true }
    let o := { outcomeOf j cleanSpan foundGood 7 with score := 64 }
    victimsFor s j { o with pass := false, saturated := true } = none ∧ victimsFor s j o = some [r] := by decide +kernel

/-- R10, R13: once the control end has passed, a FRAME record of another count makes no slip, and names no frame. -/
theorem test_no_record_after_control_end :
    let c := Instr.cellWord 5 1 .control 0 (.frame record5)
    (after c (awaiting locked)).ftr.count = 200 ∧ (after c (ended (awaiting locked))).ftr.count = 100 ∧
      (after c (ended (awaiting (timed .provisional frame0)))).ftr.sync = .provisional := by decide +kernel
/-- R177: the new id, most significant byte first; DRAINED is queued. -/
theorem test_ensemble_change :
    let u := after (.ensembleChange 5 (request .ensembleChange [0x12, 0x34])) locked
    u.ftr.expected = some 0x1234 ∧ u.mod.mode = .draining ∧ u.mod.returnMode = some .running ∧
      u.lnk.queue.map (·.kind) = [.drained] := by decide +kernel
/-- R179, R133: target 7 is every station, target 1 is not this one. -/
theorem test_restart :
    (after (.restart 5 (request .restart [7])) locked).mod.mode = .restarting ∧
    (after (.restart 5 (request .restart [1])) locked).mod.mode = .running := by decide +kernel
/-- R180, R181: with every engine IDLE the QUIESCED is queued at once. -/
theorem test_quiesce :
    let u := after (.quiesce 5 (request .quiesce [0])) locked
    u.mod.mode = .quiescing ∧ u.lnk.queue.map (·.kind) = [.quiesced] := by decide +kernel
/-- R182. -/
theorem test_resume :
    (after (.resume 5 (request .resume [0])) (modeIs locked .quiesced none)).mod.mode = .running := by decide +kernel
/-- R132. -/
theorem test_unknown_kind_message :
    (after (.unknownKindMessage 5 0x08 releaseHeard) locked).mod.counters.controlErrors = 1 := by decide +kernel

/-! ### Laws that a step keeps: a state that meets them, with a command waiting -/

theorem witness_StepKeepsQueueSound :
    let a := entryOf .status none none 0 .status 4
    let b := entryOf .gap (some 3) (some 93) 0 (.gap .late) 5
    let s := { locked with lnk := { locked.lnk with queue := [a, b] }, pending := [.idle 0 0] }
    QueueSound s ∧ ∃ u, step s = .next u :=
  ⟨by unfold QueueSound; decide +kernel, _, rfl⟩

theorem witness_StepKeepsPagesSound :
    let s := (withRecord locked (record3 .held none none)).withCommand (.idle 0 0)
    PagesSound s ∧ MemorySound s ∧ ∃ u, step s = .next u :=
  ⟨by unfold PagesSound; decide +kernel, by unfold MemorySound; decide +kernel, _, rfl⟩

theorem witness_StepKeepsJobsSound :
    let s := (busy locked job3 (.decoding 7) []).withCommand (.idle 0 0)
    JobsSound s ∧ ∃ u, step s = .next u := by
  intro s
  have hj : s.jsc.jobs = [job3] := rfl
  refine ⟨⟨by decide, by decide, ?_, ?_⟩, _, rfl⟩
  · have other (e : EngineId) (h0 : (engineOf s e).job = none) (h1 : (1 : EngineId) ≠ e) (x : StreamId) (f : FrameCount) :
        (engineOf s e).job = some (x, f) ↔
          ∃ j ∈ s.jsc.jobs, j.stream = x ∧ j.frame = f ∧ underWay j = true ∧ j.engine = e := by
      refine ⟨fun h => (by rw [h0] at h; cases h), fun ⟨j, hm, _, _, _, he⟩ => ?_⟩
      rw [hj] at hm
      rw [List.mem_singleton.1 hm] at he
      exact absurd he h1
    intro e x f
    match e with
    | 0 => exact other 0 rfl (by decide) x f
    | 1 =>
      refine ⟨fun h => ⟨job3, (by rw [hj]; exact List.mem_singleton.2 rfl), congrArg Prod.fst (Option.some.inj h),
        congrArg Prod.snd (Option.some.inj h), rfl, rfl⟩, fun ⟨j, hm, hx, hf, _, _⟩ => ?_⟩
      rw [hj] at hm
      rw [List.mem_singleton.1 hm] at hx hf
      rw [← hx, ← hf]
      rfl
    | 2 => exact other 2 rfl (by decide) x f
  · intro j hm k hk _ _ _
    rw [hj] at hm hk
    rw [List.mem_singleton.1 hm, List.mem_singleton.1 hk]

theorem witness_StepKeepsClaimsSound :
    let s := (withTable locked [{ subscription9 with effective := .foreground }]).withCommand (.idle 0 0)
    ClassesReviewed s ∧ ClaimsSound s ∧ ∃ u, step s = .next u :=
  ⟨by unfold ClassesReviewed; decide +kernel, by unfold ClaimsSound Settled; decide +kernel, _, rfl⟩

theorem witness_StepKeepsCursorsSound :
    let s := (withCursor (withTable locked [subscription9]) { cursor3 none .none with stream := 9 }).withCommand (.idle 0 0)
    CursorsSound s ∧ AnswersSound s ∧ ∃ u, step s = .next u :=
  ⟨by unfold CursorsSound; decide +kernel, ⟨fun _ h => (List.not_mem_nil h).elim, fun _ h => (List.not_mem_nil h).elim⟩,
    _, rfl⟩

theorem witness_StepKeepsTrackerAndModeSound :
    let s := locked.withCommand (.markerWindowClose 74000000)
    TrackerSound s ∧ ModeSound s ∧ LanesSound s ∧ ∃ u, step s = .next u :=
  ⟨by unfold TrackerSound untimed; decide +kernel, by unfold ModeSound; decide +kernel,
    by unfold LanesSound; decide +kernel, _, rfl⟩

end Sys2Proof.Tests
end

/-! PROOFS. Usable maps and the wrapping order of change counts (R24). -/

namespace Sys2Proof.Machine

/-! ### Usable maps -/

theorem MuxMap.usable_iff (m : MuxMap) : m.usable = true ↔ m.state = .complete ∨ m.state = .adopted := by
  rw [MuxMap.usable, Bool.or_eq_true, beq_iff_eq, beq_iff_eq]

/-! ### The order of change counts -/

/-- The distance of two change counts on the ring of 16, in natural numbers without truncation. -/
theorem changeCount_toNat_sub (a b : ChangeCount) : (b - a).toNat = (b.toNat + 16 - a.toNat) % 16 := by
  have ha : a.toNat < 16 := a.isLt
  rw [BitVec.toNat_sub]
  congr 1
  omega

theorem olderCount_iff (a b : ChangeCount) :
    olderCount a b = true ↔
      1 ≤ (b.toNat + 16 - a.toNat) % 16 ∧ (b.toNat + 16 - a.toNat) % 16 ≤ 7 := by
  rw [olderCount, decide_eq_true_iff, changeCount_toNat_sub]

theorem olderCount_eq_false_iff (a b : ChangeCount) :
    olderCount a b = false ↔
      (b.toNat + 16 - a.toNat) % 16 = 0 ∨ 8 ≤ (b.toNat + 16 - a.toNat) % 16 := by
  rw [← Bool.not_eq_true, olderCount_iff]
  omega

/-- Settles O42: both parts of R24 by the characterizations above, and R24's example of 14 and 2, whose distances on the
ring are 4 and 12. -/
theorem changeCountsAndUsableMaps : Obligations.ChangeCountsAndUsableMaps := by
  have wraps : (15 : ChangeCount) + 1 = 0 := by decide
  have older : olderCount 14 2 = true := (olderCount_iff 14 2).2 (by decide)
  have notOlder : olderCount 2 14 = false := (olderCount_eq_false_iff 2 14).2 (.inr (by decide))
  exact ⟨MuxMap.usable_iff, wraps, olderCount_iff, older, notOlder⟩

end Sys2Proof.Machine

/-! PROOFS. Freeing a parcel record (R101). -/

namespace Sys2Proof.Machine

variable {s : State} {x : StreamId} {f : FrameCount} {r : ParcelRecord}

/-- The exact next state of freeing a held record. Store and queue are written side by side: the withdrawal, where there
is one, touches the queue alone. -/
theorem freeRecord_some (h : recordOf s x f = some r) :
    freeRecord s x f = { s with
      pst := { s.pst with
        records := s.pst.records.filter (fun q => !(q.stream == x && q.frame == f)),
        freePages := s.pst.freePages ++ r.pages },
      lnk := { s.lnk with
        queue := if r.state = .queued
          then s.lnk.queue.filter (fun e => !entryMatches .parcel (some x) (some f) e)
          else s.lnk.queue } } := by
  unfold freeRecord
  rw [h]
  dsimp only
  by_cases hq : r.state = .queued
  · rw [if_pos hq, if_pos hq]
    rfl
  · rw [if_neg hq, if_neg hq]

/-- Whatever the state before, a freed stream-frame has no record. -/
@[simp] theorem recordOf_freeRecord_self (s : State) (x : StreamId) (f : FrameCount) :
    recordOf (freeRecord s x f) x f = none := by
  cases h : recordOf s x f with
  | none => rw [freeRecord_none h, h]
  | some r =>
    refine recordOf_of_records_filter fun q hq => ?_
    rw [freeRecord_some h] at hq
    obtain ⟨-, hother⟩ := List.mem_filter.1 hq
    exact (Bool.not_eq_true' _).mp hother

/-- Settles O25: the exact next state gives R101's four parts and the attempt on the line, and freeing keeps to the store
and the queue. -/
theorem freeingARecordIsOneAct : Obligations.FreeingARecordIsOneAct := by
  intro s x f r h
  have next := freeRecord_some h
  exact ⟨recordOf_freeRecord_self s x f, congrArg (·.pst.records) next, congrArg (·.pst.freePages) next,
    congrArg (·.lnk.queue) next, congrArg (·.lnk.attempt) next, within_freeRecord s x f⟩

end Sys2Proof.Machine

/-! PROOFS. What a command does to the tables: every command is a chain of acts, each of which keeps the laws. -/

namespace Sys2Proof.Machine

-- one theorem at a time: elaborated side by side, they would hold more threads than the check allows
set_option Elab.async false

/-! ### The acts -/

/-- What an entry of the transmit queue is for, and its place: nothing that a rewrite in place changes (R129). -/
def Entry.key (e : Entry) : MsgKind × Option StreamId × Option FrameCount × ArbField := (e.kind, e.stream, e.frame, e.arb)

/-- What the laws of the job table speak of: stream-frame, whether the job is under way, and its engine. -/
def Job.key (j : Job) : StreamId × FrameCount × Bool × EngineId := (j.stream, j.frame, underWay j, j.engine)

/-- A PARCEL or GAP entry for a frame at which its stream's cursor allows one (R159). -/
def Answered (s : State) (e : Entry) : Prop :=
  (e.kind = .gap → ∃ x f, e.stream = some x ∧ e.frame = some f ∧ cursorFrame s x = some f) ∧
  (e.kind = .parcel → ∃ x f, e.stream = some x ∧ e.frame = some f ∧ (cursorFrame s x = none ∨ cursorFrame s x = some f))

/-- The entries of a stream that `withdrawOthers` withdraws. -/
def otherAnswer (x : StreamId) (f : FrameCount) (e : Entry) : Bool :=
  (e.kind == .parcel && e.stream == some x && e.frame != some f) ||
    (e.kind == .gap && e.stream == some x && e.frame != some f)

/-- The parts that no table law reads, and those that it reads in one aspect alone. -/
abbrev besides : List Part :=
  [.time, .lanes, .tracker, .mapUnit, .slots, .scheduler, .arrivals, .line, .table, .claims, .peers, .releaseList, .mode,
    .statusTimer]

/-- One act on the tables. Each constructor carries the condition under which the model performs it. -/
inductive Act : State → State → Prop
  /-- a change that leaves queue, store, cursors and counters, the jobs and who runs them, and the streams named -/
  | aside {a b : State} (h : Within besides a b) (jobs : b.jsc.jobs = a.jsc.jobs)
      (engines : ∀ e, (engineOf b e).job = (engineOf a e).job) (table : ∀ x, names b.sub.table x = names a.sub.table x) : Act a b
  /-- counters rise -/
  | count {a b : State} (h : Within [.counters] a b) (rise : countersRise a.mod.counters b.mod.counters) : Act a b
  /-- entries leave the queue -/
  | thin (s : State) (q : List Entry) (h : q.Sublist s.lnk.queue) : Act s (setQueue s q)
  /-- entries are rewritten in place -/
  | rewrite (s : State) (q : List Entry) (h : q.map Entry.key = s.lnk.queue.map Entry.key) : Act s (setQueue s q)
  /-- an entry is inserted, with room for it or in the place of others -/
  | insert (s : State) (q : List Entry) (e : Entry) (h : q.Sublist s.lnk.queue)
      (room : q.length < 24 ∨ q.length < s.lnk.queue.length) (new : queued s e.kind e.stream e.frame = false)
      (answered : Answered s e) : Act s (insertNew (setQueue s q) e)
  /-- a record is freed -/
  | free (s : State) (x : StreamId) (f : FrameCount) : Act s (freeRecord s x f)
  /-- a record is changed, but for what it is of and its pages -/
  | update (s : State) (x : StreamId) (f : FrameCount) (g : ParcelRecord → ParcelRecord)
      (h : ∀ r, (g r).stream = r.stream ∧ (g r).frame = r.frame ∧ (g r).pages = r.pages) : Act s (updateRecord s x f g)
  /-- a record is made, room having been made for it -/
  | fill (s : State) (j : Job) (o : JobOutcome) (vs : List ParcelRecord) (room : victimsFor s j o = some vs)
      (new : recordOf s j.stream j.frame = none) (subscribed : (cursorOf s j.stream).isSome = true) :
      Act s (fillRecord (evict s vs) j o)
  /-- cursor entries are changed, but for the cursors -/
  | mark (s : State) (g : Cursor → Cursor) (h : ∀ c, (g c).stream = c.stream ∧ (g c).cursor = c.cursor) :
      Act s { s with dlv := { s.dlv with cursors := s.dlv.cursors.map g } }
  /-- a cursor is set, and the answers of other frames are withdrawn -/
  | advance (s : State) (x : StreamId) (f : FrameCount) (g : Cursor → Cursor)
      (h : ∀ c, (g c).stream = c.stream ∧ (g c).cursor = some f) :
      Act s (withdraw (updateCursor s x g) (otherAnswer x f))
  /-- a cursor becomes UNSET -/
  | unset (s : State) (x : StreamId) : Act s (unsetCursor s x)
  /-- the subscription table is replaced -/
  | retable (s : State) (t : List Subscription) : Act s (tableChange s t)
  /-- the subscriptions are forgotten, the queue and the store having been cleared -/
  | forget (s : State) (queue : ∀ e ∈ s.lnk.queue, e.kind = .status) (store : s.pst.records = []) : Act s (forgetUsers s)
  /-- a job is created -/
  | create (s : State) (j : Job) (new : jobOf s j.stream j.frame = none) (room : s.jsc.jobs.length < 32)
      (idle : underWay j = false) : Act s (setJobs s (s.jsc.jobs ++ [j]))
  /-- jobs that are not under way leave the table, or jobs are changed but for what the laws speak of -/
  | rejob (s : State) (js : List Job) (h : (js.map Job.key).Sublist (s.jsc.jobs.map Job.key))
      (kept : ∀ j ∈ s.jsc.jobs, underWay j = true → j.key ∈ js.map Job.key) : Act s (setJobs s js)
  /-- an IDLE engine is given a READY job of a stream with none under way -/
  | assign (s : State) (e : EngineId) (j : Job) (g : Job → Job) (x : Engine) (idle : (engineOf s e).job = none)
      (ready : j ∈ s.jsc.jobs) (free : ∀ k ∈ s.jsc.jobs, k.stream = j.stream → underWay k = false)
      (runs : ∀ k, (g k).key = (k.stream, k.frame, true, e)) (busy : x.job = some (j.stream, j.frame)) :
      Act s (setEngine (updateJob s j.stream j.frame g) e x)
  /-- the job of an engine is FINISHING -/
  | finish (s : State) (e : EngineId) (j : Job) (runs : (engineOf s e).job = some (j.stream, j.frame)) :
      Act s (updateJob s j.stream j.frame (fun j => { j with state := .finishing }))
  /-- the job of an engine leaves the table -/
  | leave (s : State) (e : EngineId) (j : Job) (runs : (engineOf s e).job = some (j.stream, j.frame)) : Act s (leaveTable s e j)
  /-- every engine is stopped and the job table emptied -/
  | stop (s : State) : Act s (stopEngines s)

/-- A chain of acts. -/
def Acts (a b : State) : Prop := Relation.ReflTransGen Act a b

theorem Acts.refl (a : State) : Acts a a := Relation.ReflTransGen.refl

theorem Acts.trans {a b c : State} (h : Acts a b) (k : Acts b c) : Acts a c := Relation.ReflTransGen.trans h k

theorem Acts.one {a b : State} (h : Act a b) : Acts a b := Relation.ReflTransGen.single h

/-- What every act keeps, every chain keeps. -/
theorem Acts.keeps {P : State → Prop} (hP : ∀ a b, Act a b → P a → P b) {a b : State} (h : Acts a b) (ha : P a) : P b := by
  induction h with
  | refl => exact ha
  | tail _ hbc ih => exact hP _ _ hbc ih

theorem Acts.foldl {α : Type} {f : State → α → State} (h : ∀ s x, Acts s (f s x)) (l : List α) (s : State) :
    Acts s (l.foldl f s) := by
  induction l generalizing s with
  | nil => exact .refl _
  | cons x xs ih => exact (h s x).trans (ih (f s x))

theorem Acts.times {f : State → State} (h : ∀ s, Acts s (f s)) (n : Nat) (s : State) : Acts s (times f n s) := by
  induction n generalizing s with
  | zero => exact .refl _
  | succ n ih => exact (h s).trans (ih (f s))

theorem Acts.ite {s a b : State} {c : Prop} [Decidable c] (ha : c → Acts s a) (hb : ¬c → Acts s b) :
    Acts s (if c then a else b) := by
  split
  · exact ha ‹_›
  · exact hb ‹_›

/-- A change confined to parts that no law reads. -/
theorem Acts.within {ps : List Part} {a b : State} (h : Within ps a b) (hs : ∀ p ∈ ps, p ∈ besides := by decide)
    (hj : Part.scheduler ∉ ps := by decide) (ht : Part.table ∉ ps := by decide) : Acts a b :=
  .one (.aside (fun p hp => h p (fun hm => hp (hs p hm))) (h.jobs hj) (fun e => by rw [engineOf, h.engines hj]; rfl)
    (fun x => by rw [h.table ht]))

/-- A change confined to the table part that keeps the streams named. -/
theorem Acts.named {a b : State} (h : Within [.table] a b) (ht : ∀ x, names b.sub.table x = names a.sub.table x) : Acts a b :=
  .one (.aside h.mono h.jobs (fun e => by rw [engineOf, h.engines]; rfl) ht)

/-! ### Counters -/

theorem countersRise_refl (c : Counters) : countersRise c c := by
  simp [countersRise]

theorem countersRise_trans {a b c : Counters} (h : countersRise a b) (k : countersRise b c) : countersRise a c := by
  obtain ⟨h1, h2, h3, h4, h5, h6, h7⟩ := h
  obtain ⟨k1, k2, k3, k4, k5, k6, k7⟩ := k
  exact ⟨BitVec.le_trans h1 k1, BitVec.le_trans h2 k2, BitVec.le_trans h3 k3, BitVec.le_trans h4 k4,
    BitVec.le_trans h5 k5, BitVec.le_trans h6 k6, BitVec.le_trans h7 k7⟩

theorem acts_countControlError (s : State) : Acts s (countControlError s) :=
  .one (.count (within_countControlError s) (by simp [countersRise, le_bump]))
theorem acts_countLateParcel (s : State) : Acts s (countLateParcel s) :=
  .one (.count (within_countLateParcel s) (by simp [countersRise, le_bump]))
theorem acts_countStoreDrop (s : State) : Acts s (countStoreDrop s) :=
  .one (.count (within_countStoreDrop s) (by simp [countersRise, le_bump]))
theorem acts_countQueueDrop (s : State) : Acts s (countQueueDrop s) :=
  .one (.count (within_countQueueDrop s) (by simp [countersRise, le_bump]))
theorem acts_countTraceDrop (s : State) : Acts s (countTraceDrop s) :=
  .one (.count (within_countTraceDrop s) (by simp [countersRise, le_bump]))
theorem acts_countLinkDrop (s : State) : Acts s (countLinkDrop s) :=
  .one (.count (within_countLinkDrop s) (by simp [countersRise, le_bump]))
theorem acts_countSlip (s : State) : Acts s (countSlip s) :=
  .one (.count (within_countSlip s) (by simp [countersRise, le_bump]))

/-! ### Queue and store -/

theorem acts_withdraw (s : State) (p : Entry → Bool) : Acts s (withdraw s p) := .one (.thin s _ List.filter_sublist)

theorem acts_freeRecord (s : State) (x : StreamId) (f : FrameCount) : Acts s (freeRecord s x f) := .one (.free s x f)

theorem acts_freeRecords (s : State) (p : ParcelRecord → Bool) : Acts s (freeRecords s p) :=
  .foldl (fun s (r : ParcelRecord) => acts_freeRecord s r.stream r.frame) _ s

theorem acts_tellStore (s : State) (e : Entry) : Acts s (tellStore s e) := by
  unfold tellStore
  split
  · exact acts_freeRecord s _ _
  · exact .refl _

/-- A queue mapped entry by entry keeps its keys where the map keeps each. -/
theorem acts_rewrite (s : State) (g : Entry → Entry) (h : ∀ e, (g e).key = e.key) :
    Acts s (setQueue s (s.lnk.queue.map g)) :=
  .one (.rewrite s _ (by rw [List.map_map]; exact List.map_congr_left fun e _ => h e))

theorem acts_rewriteHeld (s : State) (e : Entry) : Acts s (rewriteHeld s e) :=
  acts_rewrite s _ (fun h => by split <;> rfl)

theorem acts_updateEntry (s : State) (uid : Nat) (g : Entry → Entry) (h : ∀ e, (g e).key = e.key) :
    Acts s (updateEntry s uid g) :=
  acts_rewrite s _ (fun e => by split; exacts [h e, rfl])

/-- An entry that is neither a PARCEL nor a GAP is no answer for a frame. -/
theorem answered_of_kind {s : State} {e : Entry} (hg : e.kind ≠ .gap) (hp : e.kind ≠ .parcel) : Answered s e :=
  ⟨fun h => absurd h hg, fun h => absurd h hp⟩

theorem acts_insertNew {s : State} {e : Entry} (hl : s.lnk.queue.length < 24)
    (hn : queued s e.kind e.stream e.frame = false) (ha : Answered s e) : Acts s (insertNew s e) :=
  .one (.insert s s.lnk.queue e (.refl _) (.inl hl) hn ha)

theorem acts_displace {s : State} {e last : Entry} (hl : s.lnk.queue.getLast? = some last)
    (hn : queued s e.kind e.stream e.frame = false) (ha : Answered s e) :
    Acts s (insertNew (countQueueDrop (setQueue s s.lnk.queue.dropLast)) e) := by
  have hlt : s.lnk.queue.dropLast.length < s.lnk.queue.length := by
    have : s.lnk.queue ≠ [] := fun h => by simp [h] at hl
    have := List.length_pos_iff.2 this
    rw [List.length_dropLast]
    omega
  have hi : Acts s (insertNew (setQueue s s.lnk.queue.dropLast) e) :=
    .one (.insert s s.lnk.queue.dropLast e (List.dropLast_sublist _) (.inr hlt) hn ha)
  exact hi.trans (acts_countQueueDrop _)

theorem acts_offerEntry {s : State} {e : Entry} (ha : Answered s e) : Acts s (offerEntry s e).1 := by
  rcases offerEntry_cases s e with ⟨-, h⟩ | ⟨-, -, h⟩ | ⟨-, hn, h⟩
  · rw [h]
    exact .refl _
  · rcases h with ⟨-, h⟩ | ⟨-, h⟩ | ⟨-, -, h⟩ <;> rw [h]
    · exact (acts_rewriteHeld s e).trans (acts_countTraceDrop _)
    · exact acts_rewriteHeld s e
    · exact .refl _
  · rcases h with ⟨-, -, h⟩ | ⟨hl, h⟩ | ⟨-, last, hl, ⟨-, h⟩ | ⟨-, h⟩⟩ <;> rw [h]
    · exact acts_countTraceDrop s
    · exact acts_insertNew hl hn ha
    · exact (acts_displace hl hn ha).trans (acts_tellStore _ last)
    · exact acts_countQueueDrop s

theorem acts_testNotice (s : State) : Acts s (testNotice s) := by
  have h : Acts s (offerEntry s (noticeEntry s (!s.maps.wantCurrent))).1 :=
    acts_offerEntry (answered_of_kind (by simp [noticeEntry, newEntry]) (by simp [noticeEntry, newEntry]))
  unfold testNotice
  exact .ite (fun _ => .ite (fun _ => h.trans (.within (within_noticeSent _ _))) (fun _ => h)) (fun _ => .refl _)

theorem acts_offer {s : State} {e : Entry} (ha : Answered s e) : Acts s (offer s e).1 := by
  unfold offer
  dsimp only
  split
  · exact (acts_offerEntry ha).trans (acts_testNotice _)
  · exact acts_offerEntry ha

theorem acts_offerAnyway {s : State} {e : Entry} (hg : e.kind ≠ .gap) (hp : e.kind ≠ .parcel) : Acts s (offerAnyway s e) :=
  acts_offer (answered_of_kind hg hp)

theorem acts_offerNotice (s : State) {k : MsgKind} (hg : k ≠ .gap) (hp : k ≠ .parcel) : Acts s (offerNotice s k) :=
  acts_offerAnyway hg hp

theorem acts_updateRecord (s : State) (x : StreamId) (f : FrameCount) (g : ParcelRecord → ParcelRecord)
    (h : ∀ r, (g r).stream = r.stream ∧ (g r).frame = r.frame ∧ (g r).pages = r.pages := by exact fun _ => ⟨rfl, rfl, rfl⟩) :
    Acts s (updateRecord s x f g) := .one (.update s x f g h)

/-! ### Delivery -/

theorem acts_queueParcel {s : State} {r : ParcelRecord}
    (h : cursorFrame s r.stream = none ∨ cursorFrame s r.stream = some r.frame) : Acts s (queueParcel s r) := by
  have ho : Acts s (offer s (parcelEntry s r)).1 :=
    acts_offer ⟨fun hk => by simp [parcelEntry, newEntry] at hk, fun _ => ⟨_, _, rfl, rfl, h⟩⟩
  unfold queueParcel
  dsimp only
  split
  · exact ho.trans (acts_updateRecord _ _ _ _)
  · exact ho.trans (acts_freeRecord _ _ _)

theorem acts_handOver (s : State) (r : ParcelRecord) : Acts s (handOver s r) := by
  unfold handOver
  split
  · rename_i c hc
    split
    · rename_i h
      exact acts_queueParcel (by simpa [cursorFrame, hc] using h)
    · exact acts_updateRecord _ _ _ _
  · exact acts_updateRecord _ _ _ _

theorem acts_queueGap {s : State} {x : StreamId} {f : FrameCount} (h : cursorFrame s x = some f) (y : GapReason) :
    Acts s (queueGap s x f y) :=
  acts_offer ⟨fun _ => ⟨_, _, rfl, rfl, h⟩, fun hk => by simp [newEntry] at hk⟩

theorem acts_answerDeadline {s : State} {x : StreamId} {f : FrameCount} (h : cursorFrame s x = some f) :
    Acts s (answerDeadline s x f) := by
  unfold answerDeadline
  exact .ite (fun _ => .refl _) fun _ => .ite (fun _ => (acts_queueGap h _).trans (acts_freeRecord _ _ _)) fun _ =>
    .ite (fun _ => acts_queueGap h _) fun _ => acts_queueGap h _

/-- An update of one cursor entry that leaves the cursor. -/
theorem acts_updateCursor (s : State) (x : StreamId) (g : Cursor → Cursor)
    (h : ∀ c, (g c).stream = c.stream ∧ (g c).cursor = c.cursor := by exact fun _ => ⟨rfl, rfl⟩) :
    Acts s (updateCursor s x g) :=
  .one (.mark s _ (fun c => by split; exacts [h c, ⟨rfl, rfl⟩]))

theorem acts_expireDeadline {s : State} {x : StreamId} {f : FrameCount} (h : cursorFrame s x = some f) :
    Acts s (expireDeadline s x f) :=
  Acts.trans (.ite (fun _ => .refl _) (fun _ => acts_answerDeadline h)) (acts_updateCursor _ _ _)

theorem acts_armDeadline {s : State} {x : StreamId} {f : FrameCount} (h : cursorFrame s x = some f) :
    Acts s (armDeadline s x f) := by
  unfold armDeadline
  split
  · exact acts_updateCursor _ _ _
  split
  · exact acts_updateCursor _ _ _
  split
  · exact acts_updateCursor _ _ _
  · exact acts_expireDeadline h

theorem acts_rewalk (s : State) (x : StreamId) (f : FrameCount) : Acts s (rewalk s x f) := by
  unfold rewalk
  split
  · exact .refl _
  · refine acts_rewrite s _ (fun e => ?_)
    split
    · split
      · split <;> rfl
      · rfl
    · rfl

theorem recordOf_key {s : State} {x : StreamId} {f : FrameCount} {r : ParcelRecord} (h : recordOf s x f = some r) :
    r ∈ s.pst.records ∧ r.stream = x ∧ r.frame = f := by
  have hk := List.find?_some h
  simp only [Bool.and_eq_true, beq_iff_eq] at hk
  exact ⟨List.mem_of_find?_eq_some h, hk⟩

theorem acts_releaseHeld {s : State} {x : StreamId} {f : FrameCount} (h : cursorFrame s x = some f) :
    Acts s (releaseHeld s x f) := by
  unfold releaseHeld
  split
  · exact .refl _
  · rename_i r hr
    obtain ⟨-, rfl, rfl⟩ := recordOf_key hr
    exact .ite (fun _ => acts_queueParcel (.inr h)) (fun _ => .refl _)

/-- Looking a cursor up goes by the table of cursors alone. -/
theorem cursorOf_congr {a b : State} (h : b.dlv.cursors = a.dlv.cursors) (x : StreamId) : cursorOf b x = cursorOf a x := by
  rw [cursorOf, h]
  rfl

theorem cursorFrame_congr {a b : State} (h : b.dlv.cursors = a.dlv.cursors) (x : StreamId) :
    cursorFrame b x = cursorFrame a x := by
  rw [cursorFrame, cursorOf_congr h]
  rfl

/-- What a lookup finds after an update of one entry that keeps its stream. -/
theorem cursorOf_updateCursor (s : State) (x y : StreamId) {g : Cursor → Cursor} (h : ∀ c, (g c).stream = c.stream) :
    cursorOf (updateCursor s x g) y = if y = x then (cursorOf s y).map g else cursorOf s y := by
  unfold cursorOf updateCursor
  rw [List.find?_map]
  have hs : ((fun c : Cursor => c.stream == y) ∘ fun c => if c.stream == x then g c else c) = fun c => c.stream == y := by
    funext c
    dsimp only [Function.comp]
    split
    · rw [h]
    · rfl
  rw [hs]
  cases hf : s.dlv.cursors.find? (fun c => c.stream == y) with
  | none => simp
  | some c =>
    have hc : c.stream = y := by simpa using List.find?_some hf
    subst hc
    by_cases hx : c.stream = x
    · simp [hx]
    · simp [hx]

theorem cursorFrame_updateCursor_self {s : State} {x : StreamId} {g : Cursor → Cursor} {f : FrameCount}
    (h : ∀ c, (g c).stream = c.stream ∧ (g c).cursor = some f) (hx : (cursorOf s x).isSome = true) :
    cursorFrame (updateCursor s x g) x = some f := by
  obtain ⟨c, hc⟩ := Option.isSome_iff_exists.1 hx
  rw [cursorFrame, cursorOf_updateCursor s x x (fun c => (h c).1), if_pos rfl, hc]
  exact (h c).2

/-- A cursor entry set to a frame (R158). -/
def Cursor.setTo (f : FrameCount) (k : Option Nat) (c : Cursor) : Cursor :=
  { c with cursor := some f, carryIn := k, deadline := .none }

theorem setCursor_eq (s : State) (x : StreamId) (f : FrameCount) (k : Option Nat) :
    setCursor s x f k = arriveAt (updateCursor s x (Cursor.setTo f k)) x f := rfl

theorem acts_withdrawOthers_setTo (s : State) (x : StreamId) (f : FrameCount) (k : Option Nat) :
    Acts s (withdrawOthers (updateCursor s x (Cursor.setTo f k)) x f) :=
  Acts.trans (.one (.advance s x f (Cursor.setTo f k) (fun _ => ⟨rfl, rfl⟩))) (.foldl acts_tellStore _ _)

theorem acts_setCursor {s : State} {x : StreamId} (hx : (cursorOf s x).isSome = true) (f : FrameCount) (k : Option Nat) :
    Acts s (setCursor s x f k) := by
  rw [setCursor_eq, arriveAt]
  have h0 : cursorFrame (updateCursor s x (Cursor.setTo f k)) x = some f :=
    cursorFrame_updateCursor_self (fun _ => ⟨rfl, rfl⟩) hx
  have h1 := (cursorFrame_congr (within_withdrawOthers (updateCursor s x (Cursor.setTo f k)) x f).cursors x).trans h0
  have h2 := (cursorFrame_congr (within_rewalk _ x f).cursors x).trans h1
  have h3 := (cursorFrame_congr (within_releaseHeld _ x f).cursors x).trans h2
  exact (((acts_withdrawOthers_setTo s x f k).trans (acts_rewalk _ x f)).trans (acts_releaseHeld h2)).trans
    (acts_armDeadline h3)

theorem acts_unsetCursor (s : State) (x : StreamId) : Acts s (unsetCursor s x) := .one (.unset s x)

theorem acts_moveCursor (s : State) (x : StreamId) (f : FrameCount) (k : Option Nat) : Acts s (moveCursor s x f k) := by
  unfold moveCursor
  split
  · exact .refl _
  · rename_i c hc
    exact .ite (fun _ => acts_setCursor (by rw [hc]; rfl) _ _) (fun _ => .refl _)

theorem acts_reviewCursor (s : State) (x : StreamId) : Acts s (reviewCursor s x) := by
  unfold reviewCursor
  split
  · exact .refl _
  rename_i c hc
  split
  · exact .ite (fun _ => .refl _) (fun _ => (acts_updateCursor _ _ _).trans (acts_unsetCursor _ _))
  have h1 : Acts s (updateCursor s x (fun c => { c with absent := false })) := acts_updateCursor _ _ _
  dsimp only
  split
  · exact h1
  rename_i f hf
  have hfr : cursorFrame (updateCursor s x (fun c => { c with absent := false })) x = some f := by
    rw [cursorFrame, cursorOf_updateCursor (g := fun c => { c with absent := false }) s x x (fun _ => rfl), if_pos rfl, hc]
    exact hf
  exact .ite (fun _ => .ite (fun _ => h1.trans (acts_armDeadline hfr)) (fun _ => h1)) fun _ => .ite (fun _ => h1) fun _ =>
    (h1.trans (acts_updateCursor _ _ _)).trans (acts_withdraw _ _)

theorem acts_reviewCursors (s : State) : Acts s (reviewCursors s) := .foldl acts_reviewCursor _ s

theorem acts_resync (s : State) (g : FrameCount) : Acts s (resync s g) := by
  refine .foldl (fun s x => ?_) _ s
  split
  · exact .ite (fun _ => acts_unsetCursor s x) (fun _ => .refl _)
  · exact .refl _

theorem acts_repeatLapsed (s : State) : Acts s (repeatLapsed s) := by
  refine .foldl (fun s x => ?_) _ s
  split
  · rename_i c hc
    split
    · rename_i f hf
      exact .ite (fun _ => acts_answerDeadline (by rw [cursorFrame, hc]; exact hf)) (fun _ => .refl _)
    · exact .refl _
  · exact .refl _

theorem acts_releaseEvent (s : State) (f : FrameCount) (r : Instant) : Acts s (releaseEvent s f r) := by
  have hl : Within [.releaseList] s { s with dlv := { s.dlv with releaseList := pushLast 16 s.dlv.releaseList (f, r) } } := by
    intro p hp; cases p <;> first | exact absurd (by decide) hp | simp [sameIn]
  refine Acts.trans (.within hl) (.one (.mark _ (fun c =>
    if c.cursor = some f ∧ c.deadline = .armed then { c with deadline := .running (r + deadlineTime) } else c) (fun c => ?_)))
  split <;> exact ⟨rfl, rfl⟩

theorem acts_slipDelivery (s : State) : Acts s (slipDelivery s) := by
  have hl : Within [.releaseList] s { s with dlv := { s.dlv with releaseList := [] } } := by
    intro p hp; cases p <;> first | exact absurd (by decide) hp | simp [sameIn]
  refine Acts.trans (.within hl) ((acts_withdraw _ (fun e => e.kind == .gap)).trans (.one (.mark _ _ (fun c => ?_))))
  split
  · split <;> exact ⟨rfl, rfl⟩
  · exact ⟨rfl, rfl⟩

/-! ### Parcel store -/

theorem acts_placeRecord (s : State) (r : ParcelRecord) : Acts s (placeRecord s r) := by
  unfold placeRecord
  have hs : Acts s (setOffer s r) := acts_updateRecord _ _ _ _
  split
  · exact acts_updateRecord _ _ _ _
  split
  · exact hs.trans (acts_updateRecord _ _ _ _)
  · exact hs.trans (acts_handOver _ _)

theorem acts_makeRecord {s : State} {j : Job} (h : (cursorOf s j.stream).isSome = true) (o : JobOutcome) :
    Acts s (makeRecord s j o) := by
  unfold makeRecord
  split
  · exact acts_countStoreDrop s
  rename_i hn
  split
  · exact acts_countStoreDrop s
  rename_i vs hv
  have hf : Acts s (fillRecord (evict s vs) j o) := .one (.fill s j o vs hv (by simpa using hn) h)
  dsimp only
  split
  · exact hf
  split
  · exact hf.trans (acts_placeRecord _ _)
  · exact hf

theorem acts_confirmRecord (s : State) (x : StreamId) (f : FrameCount) : Acts s (confirmRecord s x f) := by
  have h : Acts s (updateRecord s x f (fun r => { r with speculative := false })) := acts_updateRecord _ _ _ _
  unfold confirmRecord
  dsimp only
  split
  · exact h
  · exact .ite (fun _ => h.trans (acts_freeRecord _ _ _)) (fun _ => h.trans (acts_placeRecord _ _))

theorem acts_confirmRecords (s : State) : Acts s (confirmRecords s) :=
  .foldl (fun s (r : ParcelRecord) => acts_confirmRecord s r.stream r.frame) _ s

/-! ### Subscriptions and claims -/

/-- A class review rewrites effective classes alone. -/
theorem names_classReview (s : State) (x : StreamId) : names (classReview s).sub.table x = names s.sub.table x := by
  simp only [names, classReview, List.any_map]
  rfl

theorem acts_classReview (s : State) : Acts s (classReview s) := .named (within_classReview s) (names_classReview s)

theorem acts_spendMark (s : State) : Acts s (spendMark s) := .named (within_spendMark s) (fun _ => rfl)

theorem acts_armAdoption (s : State) : Acts s (armAdoption s) := .named (within_armAdoption s) (fun _ => rfl)

theorem acts_tableChange (s : State) (t : List Subscription) : Acts s (tableChange s t) := .one (.retable s t)

theorem acts_applySubscribe (s : State) (e : Subscription) : Acts s (applySubscribe s e) := by
  unfold applySubscribe
  split
  · exact .ite (fun _ => .refl _) (fun _ => acts_tableChange s _)
  · exact .ite (fun _ => acts_tableChange s _) (fun _ => .refl _)

theorem acts_applyRelease (s : State) (x : StreamId) (c : Byte) : Acts s (applyRelease s x c) := by
  unfold applyRelease
  exact .ite (fun _ => acts_tableChange s _) (fun _ => .refl _)

theorem acts_adoptSubscriptions (s : State) (l : List Subscription) : Acts s (adoptSubscriptions s l) :=
  ((Acts.times acts_countControlError _ s).trans (acts_spendMark _)).trans (acts_tableChange _ _)

end Sys2Proof.Machine

/-! PROOFS. Jobs, engines and contexts as chains of acts. -/

namespace Sys2Proof.Machine

-- one theorem at a time: elaborated side by side, they would hold more threads than the check allows
set_option Elab.async false

/-! ### Jobs, engines, contexts -/

theorem engineOf_setEngine (s : State) (e d : EngineId) (x : Engine) :
    engineOf (setEngine s e x) d = if d = e then x else engineOf s d := by
  show (s.jsc.engines.set e x).get d = _
  by_cases h : d = e
  · subst h
    simp [Vector.get_eq_getElem]
  · rw [if_neg h]
    simp [Vector.get_eq_getElem, Vector.getElem_set_ne _ _ (fun hv => h (Fin.ext hv).symm), engineOf]

/-- An engine changed but for its job. -/
theorem acts_setEngine (s : State) (e : EngineId) (x : Engine) (h : x.job = (engineOf s e).job := by rfl) :
    Acts s (setEngine s e x) := by
  refine .one (.aside (within_setEngine s e x).mono rfl (fun d => ?_) (fun _ => rfl))
  rw [engineOf_setEngine]
  split
  · rename_i hd
    rw [h, hd]
  · rfl

theorem acts_setContext (s : State) (x : StreamId) (c : Context) : Acts s (setContext s x c) :=
  .one (.aside (within_setContext s x c).mono rfl (fun _ => rfl) (fun _ => rfl))

theorem acts_locate (s : State) (x : StreamId) (l : Location) : Acts s (locate s x l) := acts_setContext s x _

/-- Jobs changed one by one, but for what the laws speak of. -/
theorem acts_mapJobs (s : State) (g : Job → Job) (h : ∀ j, (g j).key = j.key) : Acts s (setJobs s (s.jsc.jobs.map g)) := by
  have hm : (s.jsc.jobs.map g).map Job.key = s.jsc.jobs.map Job.key := by
    rw [List.map_map]
    exact List.map_congr_left fun j _ => h j
  exact .one (.rejob s _ (by rw [hm]) (fun j hj _ => hm ▸ List.mem_map_of_mem hj))

/-- Jobs leave the table, none of them under way. -/
theorem acts_filterJobs (s : State) (p : Job → Bool) (h : ∀ j, underWay j = true → p j = true) :
    Acts s (setJobs s (s.jsc.jobs.filter p)) :=
  .one (.rejob s _ (List.filter_sublist.map _) (fun j hj hu => List.mem_map_of_mem (List.mem_filter.2 ⟨hj, h j hu⟩)))

theorem underWay_readiness (js : List Job) (j : Job) : underWay { j with state := readiness js j } = false := by
  unfold underWay readiness
  dsimp only
  generalize List.any js _ = b
  cases b <;> rfl

theorem acts_retest (s : State) : Acts s (retest s) := by
  refine acts_mapJobs s _ (fun j => ?_)
  split
  · rfl
  · rename_i h
    simp only [Job.key, underWay_readiness, Bool.not_eq_true] at h ⊢
    rw [h]

theorem acts_updateJob (s : State) (x : StreamId) (f : FrameCount) (g : Job → Job)
    (h : ∀ j, j.stream = x → j.frame = f → (g j).key = j.key) : Acts s (updateJob s x f g) := by
  refine acts_mapJobs s _ (fun j => ?_)
  split
  · rename_i hj
    simp only [Bool.and_eq_true, beq_iff_eq] at hj
    exact h j hj.1 hj.2
  · rfl

theorem acts_dropHolders (s : State) (x : StreamId) (k : Option EngineId) : Acts s (dropHolders s x k) :=
  .foldl (fun s e => .ite (fun _ => acts_setEngine s e _) (fun _ => .refl _)) _ s

theorem acts_takeCheckpoint (s : State) (j : Job) : Acts s (takeCheckpoint s j) := by
  unfold takeCheckpoint
  exact .ite (fun _ => acts_setContext s _ _) (fun _ => .refl _)

theorem acts_beginDecoding (s : State) (e : EngineId) (j : Job) : Acts s (beginDecoding s e j) :=
  (acts_takeCheckpoint s j).trans (acts_setEngine _ e _)

theorem acts_takeContext (s : State) (e : EngineId) (j : Job) : Acts s (takeContext s e j) := by
  unfold takeContext
  dsimp only
  split
  · exact acts_beginDecoding s e j
  · split
    · exact acts_beginDecoding s e j
    · exact ((acts_dropHolders s _ _).trans (acts_setContext _ _ _)).trans
        ((acts_setEngine _ e _).trans (acts_beginDecoding _ e j))
  · split
    · exact (acts_setEngine s _ _).trans (acts_setEngine _ e _)
    · exact acts_setEngine s e _
  · split
    · split <;> exact acts_setEngine s e _
    · exact acts_setEngine s e _

theorem acts_dropHeld (s : State) (e : EngineId) (x : StreamId) : Acts s (dropHeld s e x) := by
  unfold dropHeld
  exact .ite (fun _ => (acts_setEngine s e _).trans (acts_locate _ _ _)) (fun _ => acts_setEngine s e _)

theorem acts_beginMoves (round : List EngineId) (s : State) (e : EngineId) : Acts s (beginMoves round s e) := by
  unfold beginMoves
  split
  · exact .refl _
  split
  · exact acts_takeContext s e _
  split
  · exact acts_takeContext s e _
  split
  · exact acts_setEngine s e _
  split
  · exact acts_setEngine s e _
  · exact (acts_dropHeld s e _).trans (acts_takeContext _ e _)

theorem mem_sortBy {α : Type} {lt : α → α → Bool} {y : α} {l : List α} : y ∈ sortBy lt l ↔ y ∈ l := by
  induction l with
  | nil => rfl
  | cons x xs ih => rw [sortBy, mem_insertBy, ih, List.mem_cons]

/-- The jobs that an issue round chooses from are READY, each of a stream with none under way. -/
theorem of_mem_readyJobs {s : State} {j : Job} (h : j ∈ readyJobs s) :
    j ∈ s.jsc.jobs ∧ j.state = .ready ∧ ∀ k ∈ s.jsc.jobs, k.stream = j.stream → underWay k = false := by
  rw [readyJobs, mem_sortBy, List.mem_filter, Bool.and_eq_true, beq_iff_eq, Bool.not_eq_true', List.any_eq_false] at h
  obtain ⟨hj, hr, hu⟩ := h
  refine ⟨hj, hr, fun k hk hs => ?_⟩
  simpa [hs] using hu k hk

/-- The engine chosen for a job is IDLE (R66). -/
theorem idle_of_chooseEngine {s : State} {x : StreamId} {e : EngineId} (h : chooseEngine s x = some e) :
    (engineOf s e).job = none := by
  have hmem : e ∈ (List.finRange 3).filter (fun e => isIdle (engineOf s e)) := by
    unfold chooseEngine at h
    dsimp only at h
    split at h
    · rename_i d hd
      exact Option.some.inj h ▸ List.mem_of_find?_eq_some hd
    · exact List.mem_of_mem_head? h
  simpa [isIdle] using (List.mem_filter.1 hmem).2

theorem acts_assign (n : Nat) (s : State) (round : List EngineId) : Acts s (assign n s round).1 := by
  induction n generalizing s round with
  | zero => exact .refl _
  | succ n ih =>
    unfold assign
    split
    · exact .refl _
    rename_i j hj
    split
    · exact .refl _
    rename_i e he
    obtain ⟨hmem, -, hfree⟩ := of_mem_readyJobs (List.mem_of_mem_head? hj)
    exact Acts.trans (.one (.assign s e j _ _ (idle_of_chooseEngine he) hmem hfree (fun _ => rfl) rfl)) (ih _ _)

theorem acts_issueRound (s : State) : Acts s (issueRound s) := by
  unfold issueRound
  exact .ite (fun _ => .refl _) (fun _ => (acts_assign 3 s []).trans (.foldl (acts_beginMoves _) _ _))

theorem acts_settleJobs (s : State) : Acts s (settleJobs s) := (acts_retest s).trans (acts_issueRound _)

theorem acts_openCheckpoint (s : State) (x : StreamId) : Acts s (openCheckpoint s x) := by
  unfold openCheckpoint
  dsimp only
  split
  · exact .refl _
  · exact (acts_setContext s _ _).trans (.within (within_setMaps _ _))

theorem openCheckpoint_jobs (s : State) (x : StreamId) : (openCheckpoint s x).jsc.jobs = s.jsc.jobs := by
  unfold openCheckpoint
  dsimp only
  split <;> rfl

theorem acts_createJob (s : State) (x : StreamId) (c : JobClass) (f : FrameCount) (r : Instant) :
    Acts s (createJob s x c f r) := by
  unfold createJob
  dsimp only
  split
  · exact .refl _
  split
  · exact .refl _
  rename_i en _ h
  have hnone : jobOf s x f = none := by
    rcases hj : jobOf s x f with _ | j
    · rfl
    · exact absurd (.inl (by rw [hj]; rfl)) h
  have hroom : s.jsc.jobs.length < 32 := Nat.lt_of_not_le fun hl => h (.inr hl)
  split
  · have hjobs := openCheckpoint_jobs s x
    refine (acts_openCheckpoint s x).trans (.one (.create _ _ ?_ ?_ (underWay_readiness _ _)))
    · rw [jobOf, hjobs]
      exact hnone
    · rw [hjobs]
      exact hroom
  · exact .one (.create s _ hnone hroom (underWay_readiness _ _))

theorem acts_createFrame (s : State) (f : FrameCount) (r : Instant) : Acts s (createFrame s f r) :=
  .foldl (fun s (p : StreamId × JobClass) => acts_createJob s p.1 p.2 f r) _ s

theorem acts_createMissed (s : State) (f : FrameCount) (r : Instant) : Acts s (createMissed s f r) :=
  .foldl (fun s (p : StreamId × JobClass) => .ite (fun _ => .refl _) (fun _ => acts_createJob s p.1 p.2 f r)) _ s

theorem acts_recreateJob (s : State) (x : StreamId) (c : JobClass) (f : FrameCount) (r : Instant) :
    Acts s (recreateJob s x c f r) := by
  unfold recreateJob
  split
  · exact .refl _
  split
  · exact .ite (fun _ => acts_updateJob s _ _ _ (fun _ _ _ => rfl)) (fun _ => .refl _)
  · exact acts_createJob s x c f r

theorem acts_createOver (s : State) (q : FrameCount → Bool) (create : State → FrameCount → Instant → State)
    (h : ∀ s f r, Acts s (create s f r)) : Acts s (createOver s q create) := by
  refine .foldl (fun s f => ?_) _ s
  split
  · exact .ite (fun _ => h s f _) (fun _ => .refl _)
  · exact .refl _

theorem acts_catchUp (s : State) (d : FrameCount) : Acts s (catchUp s d) := by
  unfold catchUp
  exact .ite (fun _ => (acts_createOver s _ _ acts_createMissed).trans (acts_settleJobs _)) (fun _ => .refl _)

theorem acts_restartPass (s : State) : Acts s (restartPass s) := by
  unfold restartPass
  exact .ite (fun _ => (acts_createOver s _ _ acts_createMissed).trans (acts_settleJobs _)) (fun _ => .refl _)

theorem acts_recreateFrame (s : State) (f : FrameCount) (r : Instant) : Acts s (recreateFrame s f r) :=
  .foldl (fun s (p : StreamId × JobClass) => acts_recreateJob s p.1 p.2 f r) _ s

theorem acts_recreateFrom (s : State) (c : FrameCount) : Acts s (recreateFrom s c) := by
  unfold recreateFrom
  exact .ite (fun _ => (acts_createOver s _ _ acts_recreateFrame).trans (acts_settleJobs _)) (fun _ => acts_settleJobs s)

theorem acts_recreatePutOff (s : State) (x : StreamId) (f : FrameCount) : Acts s (recreatePutOff s x f) := by
  unfold recreatePutOff
  split
  · exact .ite (fun _ => acts_createJob s _ _ _ _) (fun _ => .refl _)
  · exact .refl _

theorem acts_expire (s : State) : Acts s (expire s) := acts_filterJobs s _ (fun j h => by simp [h])

theorem acts_createOrDefer (s : State) (f : FrameCount) : Acts s (createOrDefer s f) := by
  unfold createOrDefer
  exact .ite (fun _ => acts_createFrame s f _) (fun _ => .within (within_defer s f))

theorem acts_jobsAtPayloadEnd (s : State) (g : FrameCount) (whole : Bool) : Acts s (jobsAtPayloadEnd s g whole) :=
  (((acts_expire s).trans (.within (within_noteArrival _ g))).trans
    (.ite (fun _ => acts_createOrDefer _ _) (fun _ => .refl _))).trans (acts_settleJobs _)

theorem acts_restoreStream (s : State) (x : StreamId) : Acts s (restoreStream s x) := by
  unfold restoreStream
  dsimp only
  split
  · exact .ite (fun _ => acts_setContext s _ _) (fun _ => (acts_dropHolders s _ _).trans (acts_setContext _ _ _))
  · exact acts_setContext s _ _
  · exact acts_setContext s _ _
  · exact .refl _

theorem acts_dropSpeculative (s : State) : Acts s (dropSpeculative s) := acts_freeRecords s _

theorem acts_discardSpeculative (s : State) :
    Acts s (setJobs s ((s.jsc.jobs.filter (fun j => underWay j || !j.speculative)).map
      (fun j => if j.speculative then { j with discard := true } else j))) :=
  (acts_filterJobs s _ (fun j h => by simp [h])).trans (acts_mapJobs _ _ (fun j => by split <;> rfl))

theorem acts_undoSpeculation (s : State) (xs : List StreamId) : Acts s (undoSpeculation s xs) :=
  ((acts_discardSpeculative s).trans (acts_dropSpeculative _)).trans (.foldl acts_restoreStream _ _)

/-- A change of contexts alone. -/
theorem acts_contexts (s : State) (t : Table 64 Context) : Acts s { s with jsc := { s.jsc with contexts := t } } := by
  refine .one (.aside ?_ rfl (fun _ => rfl) (fun _ => rfl))
  intro p hp; cases p <;> first | exact absurd (by decide) hp | simp [sameIn]

theorem acts_confirmJobs (s : State) : Acts s (confirmJobs s) :=
  (acts_mapJobs s (fun j => { j with speculative := false }) (fun _ => rfl)).trans (acts_contexts _ _)

theorem acts_stopEngines (s : State) : Acts s (stopEngines s) := .one (.stop s)

theorem acts_reportIdle (s : State) : Acts s (reportIdle s) := by
  unfold reportIdle
  exact .ite (fun _ => acts_offerAnyway (by simp [newEntry]) (by simp [newEntry])) (fun _ => .refl _)

theorem acts_quiesceJobs (s : State) : Acts s (quiesceJobs s) :=
  (acts_filterJobs s underWay (fun _ h => h)).trans (acts_mapJobs _ _ (fun _ => rfl))

theorem Table.get_update {n : Nat} {α : Type} (f : α → α) (t : Table n α) (i : Fin n) : (t.update f).get i = f (t.get i) := by
  simp [Table.update, Vector.get_eq_getElem, ← Vector.getElem_toArray]

theorem acts_resumeContexts (s : State) : Acts s (resumeContexts s) := by
  refine .one (.aside (within_resumeContexts s).mono rfl (fun e => ?_) (fun _ => rfl))
  rw [engineOf, resumeContexts, Table.get_update]
  rfl

theorem acts_wakeLoaders (s : State) (e : EngineId) : Acts s (wakeLoaders s e) :=
  .foldl (fun s w => .ite (fun _ => acts_setEngine s w _) (fun _ => .refl _)) _ s

theorem acts_holdContext (s : State) (e : EngineId) (j : Job) (d : Bool) : Acts s (holdContext s e j d) := by
  unfold holdContext
  exact .ite (fun _ => .refl _) (fun _ => (acts_setEngine s e _).trans (acts_locate _ _ _))

theorem acts_saveDone (s : State) (e : EngineId) (j : Job) : Acts s (saveDone s e j) := by
  unfold saveDone
  refine .trans ?_ (acts_takeContext _ e j)
  refine .trans ?_ (acts_wakeLoaders _ e)
  split
  · exact acts_dropHeld s e _
  · exact .refl _

theorem acts_transferDone (s : State) (e g : EngineId) (j : Job) : Acts s (transferDone s e g j) := by
  have h := ((acts_holdContext s e j (engineOf s g).dirty).trans
    (acts_setEngine _ g { engineOf (holdContext s e j (engineOf s g).dirty) g with held := none, dirty := false })).trans
      (acts_beginDecoding _ e j)
  unfold transferDone
  dsimp only
  split
  · exact h.trans (acts_takeContext _ _ _)
  · exact h

theorem acts_completeMove (s : State) (e : EngineId) : Acts s (completeMove s e) := by
  unfold completeMove
  split
  · exact .refl _
  split
  · exact .ite (fun _ => .refl _) (fun _ => acts_saveDone s e _)
  · exact .ite (fun _ => .refl _) (fun _ => acts_transferDone s e _ _)
  · exact .ite (fun _ => .refl _) (fun _ => (acts_holdContext s e _ _).trans (acts_beginDecoding _ e _))
  · exact .refl _

theorem subscribed_of_not_isLate {s : State} {j : Job} (h : ¬isLate s j = true) : (cursorOf s j.stream).isSome = true := by
  rcases hc : cursorOf s j.stream with _ | c
  · simp [isLate, hc] at h
  · rfl

theorem acts_dispose (s : State) (j : Job) (o : JobOutcome) : Acts s (dispose s j o) := by
  unfold dispose
  exact .ite (fun _ => acts_countLateParcel s) (fun h => acts_makeRecord (subscribed_of_not_isLate h) o)

theorem acts_offerTrace (s : State) (j : Job) (o : JobOutcome) : Acts s (offerTrace s j o) := by
  unfold offerTrace
  exact .ite (fun _ => acts_offerAnyway (by simp [traceEntry, newEntry]) (by simp [traceEntry, newEntry])) (fun _ => .refl _)

theorem acts_retire {s : State} {e : EngineId} {j : Job} (h : (engineOf s e).job = some (j.stream, j.frame)) (o : JobOutcome) :
    Acts s (retire s e j o) := by
  have hw : Within [.store, .queue, .counters, .mapUnit, .pageMem] s (offerTrace (dispose s j o) j o) :=
    (within_dispose s j o).trans (within_offerTrace _ j o).mono
  have hr : (engineOf (offerTrace (dispose s j o) j o) e).job = some (j.stream, j.frame) := by
    rw [engineOf, hw.engines]
    exact h
  refine .trans (.trans (.trans ((acts_dispose s j o).trans (acts_offerTrace _ j o)) (.one (.leave _ e j hr))) ?_)
    (acts_settleJobs _)
  exact .trans (.ite (fun _ => acts_recreatePutOff _ _ _) (fun _ => .refl _)) (acts_reportIdle _)

theorem acts_advanceContext (s : State) (e : EngineId) (j : Job) (ms : List Nat) : Acts s (advanceContext s e j ms) := by
  unfold advanceContext
  dsimp only
  split
  · exact (acts_setEngine s e _).trans (acts_setContext _ _ _)
  · exact .ite (fun _ => (acts_setEngine s e _).trans (acts_setContext _ _ _))
      (fun _ => (acts_setEngine s e _).trans (acts_setContext _ _ _))

/-- Advancing a context leaves every engine the job it has. -/
theorem engine_job_advanceContext (s : State) (e : EngineId) (j : Job) (ms : List Nat) (d : EngineId) :
    (engineOf (advanceContext s e j ms) d).job = (engineOf s d).job := by
  have hset (x : Engine) (c : Context) (hx : x.job = (engineOf s e).job) :
      (engineOf (setContext (setEngine s e x) j.stream c) d).job = (engineOf s d).job := by
    show (engineOf (setEngine s e x) d).job = _
    rw [engineOf_setEngine]
    split
    · rename_i hd
      rw [hx, hd]
    · rfl
  unfold advanceContext
  dsimp only
  split
  · exact hset _ _ rfl
  · split <;> exact hset _ _ rfl

theorem engineJob_key {s : State} {e : EngineId} {j : Job} (h : engineJob s e = some j) :
    (engineOf s e).job = some (j.stream, j.frame) ∧ j ∈ s.jsc.jobs := by
  unfold engineJob at h
  split at h
  · rename_i x f hxf
    have hk := List.find?_some h
    simp only [Bool.and_eq_true, beq_iff_eq] at hk
    exact ⟨by rw [hxf, hk.1, hk.2], List.mem_of_find?_eq_some h⟩
  · cases h

theorem acts_endDecoding (s : State) (e : EngineId) (d : Decoded) : Acts s (endDecoding s e d) := by
  unfold endDecoding
  split
  · rename_i j t hj _
    obtain ⟨hrun, -⟩ := engineJob_key hj
    refine .ite (fun _ => .refl _) (fun _ => ?_)
    refine .trans (.one (.finish s e j hrun)) (.trans (acts_advanceContext _ e j _) (acts_retire ?_ _))
    rw [engine_job_advanceContext]
    exact hrun
  · exact .refl _

end Sys2Proof.Machine

/-! PROOFS. Map unit, tracker, link and requests as chains of acts; what freeing records leaves. -/

namespace Sys2Proof.Machine

-- one theorem at a time: elaborated side by side, they would hold more threads than the check allows
set_option Elab.async false

/-! ### Map unit -/

theorem acts_setMaps (s : State) (u : MapUnit) : Acts s (setMaps s u) := .within (within_setMaps s u)
theorem acts_setCurrent (s : State) (m : MuxMap) : Acts s (setCurrent s m) := .within (within_setCurrent s m)
theorem acts_setNext (s : State) (m : MuxMap) : Acts s (setNext s m) := .within (within_setNext s m)
theorem acts_setTracker (s : State) (x : Tracker) : Acts s (setTracker s x) := .within (within_setTracker s x)

theorem acts_mapChanged (s : State) : Acts s (mapChanged s) :=
  (((acts_setMaps s _).trans (acts_classReview _)).trans (.within (within_claimReview _))).trans (acts_reviewCursors _)

theorem acts_currentReady (s : State) : Acts s (currentReady s) := by
  unfold currentReady
  split
  · exact .ite (fun _ => (acts_setCurrent s _).trans (acts_catchUp _ _)) (fun _ => .refl _)
  · exact .refl _

theorem acts_nextReady (s : State) : Acts s (nextReady s) := by
  unfold nextReady
  split
  · exact .ite (fun _ => (acts_setNext s _).trans (acts_catchUp _ _)) (fun _ => .refl _)
  · exact .refl _

theorem acts_settleMaps (s : State) : Acts s (settleMaps s) :=
  ((acts_mapChanged s).trans (acts_currentReady _)).trans (acts_nextReady _)

theorem acts_confirm (s : State) : Acts s (confirm s) :=
  (((acts_setMaps s _).trans (acts_confirmJobs _)).trans (acts_confirmRecords _)).trans (acts_settleMaps _)

theorem acts_backOut (s : State) (h : Settlement) : Acts s (backOut s h) := by
  unfold backOut
  split
  · exact (((acts_undoSpeculation s _).trans (acts_setMaps _ _)).trans (acts_recreateFrom _ _)).trans (acts_settleMaps _)
  · exact (acts_setNext s _).trans (acts_settleMaps _)

theorem acts_weighRecord (s : State) (r : FrameRecord) : Acts s (weighRecord s r) := by
  unfold weighRecord
  exact .ite (fun _ => .ite (fun _ => acts_confirm s) fun _ => .ite (fun _ => acts_backOut s _) fun _ => acts_backOut s _)
    (fun _ => .refl _)

theorem acts_weighStatus (s : State) (p : Peer) : Acts s (weighStatus s p) := by
  unfold weighStatus
  exact .ite (fun _ => .ite (fun _ => acts_confirm s) fun _ => .ite (fun _ => .ite (fun _ => acts_backOut s _)
    fun _ => acts_backOut s _) fun _ => .refl _) (fun _ => .refl _)

theorem acts_renewCurrent (s : State) (m : MuxMap) : Acts s (settleMaps (setCurrent s m)) :=
  (acts_setCurrent s m).trans (acts_settleMaps _)

theorem acts_replaceNext (s : State) (m : MuxMap) : Acts s (settleMaps (setNext s m)) :=
  (acts_setNext s m).trans (acts_settleMaps _)

theorem acts_takeCurrentFields (s : State) (r : FrameRecord) : Acts s (takeCurrentFields s r).1 := by
  unfold takeCurrentFields
  dsimp only
  split
  · exact acts_renewCurrent s _
  split
  · split
    · exact .refl _
    · split
      · exact acts_countControlError s
      · exact acts_renewCurrent s _
  split
  · exact acts_countControlError s
  · exact acts_renewCurrent s _

theorem acts_renewNext (s : State) (m : MuxMap) : Acts s (renewNext s m) :=
  Acts.trans (.ite (fun _ => acts_backOut s _) (fun _ => .refl _)) (acts_replaceNext _ m)

theorem acts_takePendingFields (s : State) (r : FrameRecord) : Acts s (takePendingFields s r) := by
  unfold takePendingFields
  dsimp only
  refine .ite (fun _ => .ite (fun _ => acts_replaceNext s _) fun _ => .ite (fun _ => .ite (fun _ => .ite (fun _ => .refl _)
    fun _ => .ite (fun _ => acts_countControlError s) fun _ => acts_replaceNext s _) fun _ => .ite (fun _ => acts_backOut s _)
    fun _ => acts_replaceNext s _) fun _ => acts_renewNext s _) (fun _ => .ite (fun _ => .refl _) fun _ => acts_backOut s _)

theorem acts_mapFrameRecord (s : State) (r : FrameRecord) : Acts s (mapFrameRecord s r) := by
  have h := (acts_weighRecord s r).trans (acts_takeCurrentFields _ r)
  unfold mapFrameRecord
  exact .ite (fun _ => h.trans (acts_takePendingFields _ r)) (fun _ => h)

theorem acts_settleIf (due : Bool) (s : State) : Acts s (settleIf due s) := by
  unfold settleIf
  exact .ite (fun _ => acts_settleMaps s) (fun _ => .refl _)

theorem acts_mapStreamRecord (s : State) (tag : ChangeCount) (e : RawEntry) : Acts s (mapStreamRecord s tag e) := by
  have hc (c : Prop) [Decidable c] : Acts s (if c then countControlError s else s) :=
    .ite (fun _ => acts_countControlError s) (fun _ => .refl _)
  unfold mapStreamRecord
  dsimp only
  exact .ite (fun _ => ((hc _).trans (acts_setCurrent _ _)).trans (acts_settleIf _ _)) fun _ => .ite (fun _ =>
    .ite (fun _ => (hc _).trans (acts_backOut _ _)) fun _ => ((hc _).trans (acts_setNext _ _)).trans (acts_settleIf _ _))
    fun _ => .refl _

theorem acts_raiseMarks (s : State) (p : Peer) : Acts s (raiseMarks s p) := by
  unfold raiseMarks
  exact .ite (fun _ => (acts_setMaps s _).trans (acts_testNotice _)) (fun _ => .refl _)

theorem acts_adoptNext (s : State) (n : MapNotice) (c : FrameCount) : Acts s (adoptNext s n c) := by
  unfold adoptNext
  exact .ite (fun _ => .ite (fun _ => acts_backOut s _) fun _ => acts_replaceNext s _) (fun _ => .refl _)

theorem acts_adoptCurrent (s : State) (n : MapNotice) : Acts s (adoptCurrent s n) := by
  unfold adoptCurrent
  exact .ite (fun _ => .ite (fun _ => (acts_setCurrent s _).trans (acts_backOut _ _)) fun _ => acts_renewCurrent s _)
    (fun _ => .refl _)

theorem acts_hearNotice (s : State) (n : MapNotice) : Acts s (hearNotice s n) := by
  unfold hearNotice
  dsimp only
  split
  · exact acts_countControlError s
  split
  · exact .refl _
  split
  · split
    · exact .refl _
    · split
      · exact acts_adoptNext s n _
      · exact .refl _
  · exact .ite (fun _ => acts_adoptNext s n _) (fun _ => acts_adoptCurrent s n)

/-! ### Frame tracker -/

theorem acts_cadencePoint (s : State) : Acts s (cadencePoint s) :=
  Acts.trans (.ite (fun _ => acts_offerNotice s (by simp) (by simp)) (fun _ => .refl _))
    (.ite (fun _ => acts_offerNotice _ (by simp) (by simp)) fun _ => .ite
      (fun _ => acts_offerNotice _ (by simp) (by simp)) fun _ => .refl _)

theorem acts_ageOut (s : State) (g : FrameCount) : Acts s (ageOut s g) := acts_freeRecords s _

theorem acts_frameStart (s : State) : Acts s (frameStart s) := by
  unfold frameStart
  refine .trans ?_ (.within (within_releaseOutgoing _ _))
  refine .trans ?_ (acts_ageOut _ _)
  refine .trans ?_ (acts_repeatLapsed _)
  refine .trans ?_ (acts_resync _ _)
  refine .trans ?_ (acts_cadencePoint _)
  exact (Acts.within (within_noteStart s)).trans (.within (within_openClaims _))

theorem acts_issuePayloadEnd (s : State) (received : Bool) : Acts s (issuePayloadEnd s received) :=
  Acts.trans (.within ((within_setIlm s _).mono.trans (within_setTracker _ _).mono : Within [.slots, .tracker] _ _))
    (acts_jobsAtPayloadEnd _ _ _)

theorem acts_failIfUnnamed (s : State) : Acts s (failIfUnnamed s) := .within (within_failIfUnnamed s)

theorem acts_finishPayload (s : State) (f : Frame) : Acts s (finishPayload s f) :=
  Acts.trans (.within (within_setFrame s _)) (.ite (fun _ => acts_issuePayloadEnd _ _) (fun _ => .within (within_clearFill _)))

theorem acts_endPayload (s : State) : Acts s (endPayload s) := by
  unfold endPayload
  split
  · exact .refl _
  split
  · exact .refl _
  dsimp only
  split
  · exact acts_failIfUnnamed s
  · exact (acts_failIfUnnamed s).trans (acts_finishPayload _ _)

theorem acts_endControl (s : State) : Acts s (endControl s) := .within (within_endControl s)

theorem acts_endFrame (s : State) : Acts s (endFrame s) := (acts_endControl s).trans (acts_endPayload _)

theorem acts_enterLost (s : State) : Acts s (enterLost s) := .within (within_enterLost s)

theorem acts_emptyStore (s : State) : Acts s (emptyStore s) := acts_freeRecords s _

theorem acts_abandonWork (s : State) : Acts s (abandonWork s) :=
  (((Acts.within (within_eraseSlots s)).trans (acts_stopEngines _)).trans
    ((Acts.within (within_emptyArrivals _)).trans (acts_emptyStore _))).trans (acts_countSlip _)

theorem acts_slip (s : State) (g : FrameCount) : Acts s (slip s g) := by
  have h : Acts s (slipDelivery (dropChangeover (adoptCount (abandonWork s) g))) :=
    ((acts_abandonWork s).trans (acts_setTracker _ _)).trans ((acts_setMaps _ _).trans (acts_slipDelivery _))
  exact .ite (fun _ => h) (fun _ => h.trans (acts_reportIdle _))

theorem acts_lock (s : State) (r : FrameRecord) : Acts s (lock s r) :=
  ((acts_setTracker s _).trans (.within (within_setStatusTimer _ _))).trans (acts_frameStart _)

theorem acts_endReception (s : State) : Acts s (endReception s) := .within (within_endReception s)

theorem acts_trackRecord (s : State) (f : Frame) (r : FrameRecord) : Acts s (trackRecord s f r) := by
  unfold trackRecord
  split
  · exact .ite (fun _ => acts_lock s r) (fun _ => .refl _)
  · exact .ite (fun _ => acts_endReception s) fun _ => .ite (fun _ => .refl _) fun _ => acts_slip s _
  · exact .ite (fun _ => .refl _) fun _ => .ite (fun _ => acts_setTracker s _) fun _ =>
      .ite (fun _ => acts_setTracker s _) fun _ => acts_slip s _
  · exact .refl _
  · exact .refl _

theorem acts_passToMap (s : State) (r : FrameRecord) : Acts s (passToMap s r) := by
  unfold passToMap
  exact .ite (fun _ => acts_mapFrameRecord s r) (fun _ => .refl _)

theorem acts_takeFrameRecord (s : State) (r : FrameRecord) : Acts s (takeFrameRecord s r) := by
  unfold takeFrameRecord
  split
  · exact .refl _
  · exact .ite (fun _ => .refl _) fun _ => ((acts_setTracker s _).trans (acts_trackRecord _ _ r)).trans (acts_passToMap _ r)

theorem acts_takeBlock (s : State) (b : ControlBlock) : Acts s (takeBlock s b) := by
  unfold takeBlock
  split
  · exact acts_countControlError s
  · exact acts_countControlError s
  · exact .refl _
  · exact .ite (fun _ => acts_takeFrameRecord s _) (fun _ => acts_countControlError s)
  · exact .ite (fun _ => acts_countControlError s) fun _ => .ite (fun _ => acts_mapStreamRecord s _ _) fun _ => .refl _

theorem acts_countControlWord (s : State) (kept : Bool) (w : CellWord) (b : ControlBlock) :
    Acts s (countControlWord s kept w b) := by
  have hb : Acts (setControl s (wordCounted s.ftr.control kept w))
      (blockDone (setControl s (wordCounted s.ftr.control kept w)) s.ftr.control kept w b) :=
    .ite (fun _ => acts_takeBlock _ b) (fun _ => .refl _)
  have h := (acts_setTracker s _).trans hb
  unfold countControlWord
  exact .ite (fun _ => .refl _) fun _ => .ite (fun _ => h.trans (acts_endControl _)) fun _ => h

theorem acts_takeControlWord (s : State) (w : CellWord) (b : ControlBlock) : Acts s (takeControlWord s w b) := by
  unfold takeControlWord
  dsimp only
  split
  · exact .refl _
  · exact acts_countControlWord s _ w b
  · exact .ite (fun _ => acts_setTracker s _) (fun _ => .refl _)

theorem acts_takeHeld (s : State) (h : Option (CellWord × ControlBlock)) : Acts s (takeHeld s h) := by
  cases h with
  | none => exact acts_countControlWord s _ _ _
  | some p => exact acts_takeControlWord s _ _

theorem acts_passHeld (s : State) (held : List (Option (CellWord × ControlBlock))) : Acts s (passHeld s held) :=
  .foldl acts_takeHeld _ s

theorem acts_installFrame (s : State) (f : Frame) (m : Bool) : Acts s (installFrame s f m) :=
  .within (within_installFrame s f m)

theorem acts_beginUnnamed (s : State) : Acts s (beginUnnamed s) :=
  (((acts_setTracker s _).trans (acts_installFrame _ _ _)).trans (acts_setTracker _ _)).trans (acts_passHeld _ _)

theorem acts_beginNamed (s : State) (k : FrameKind) : Acts s (beginNamed s k) :=
  (((acts_setTracker s _).trans (acts_installFrame _ _ _)).trans
    ((acts_frameStart _).trans (acts_setTracker _ _))).trans (acts_passHeld _ _)

theorem acts_markerArrival (s : State) : Acts s (markerArrival s) := by
  have he := acts_endFrame s
  unfold markerArrival
  split
  · exact acts_beginUnnamed s
  · exact acts_beginUnnamed s
  · exact .ite (fun _ => he.trans (acts_beginUnnamed _)) (fun _ => .refl _)
  · exact .ite (fun _ => he.trans (acts_beginNamed _ _)) (fun _ => .refl _)
  · exact .ite (fun _ => .refl _) fun _ => .ite
      (fun _ => (he.trans (acts_enterLost _)).trans (acts_beginUnnamed _)) fun _ => he.trans (acts_beginNamed _ _)

theorem acts_beginFlywheel (s : State) (t : Instant) : Acts s (beginFlywheel s t) :=
  ((((acts_setTracker s _).trans (acts_setTracker _ _)).trans (acts_installFrame _ _ _)).trans (acts_frameStart _)).trans
    (acts_setTracker _ _)

theorem acts_closeWindow (s : State) (t : Instant) : Acts s (closeWindow s t) := by
  have he := acts_endFrame s
  unfold closeWindow
  split
  · exact .refl _
  · exact .refl _
  · exact .within (within_returnToSearch s)
  · exact (he.trans (acts_setTracker _ _)).trans (acts_beginFlywheel _ t)
  · exact .ite (fun _ => .refl _) fun _ => .ite (fun _ => he.trans (acts_enterLost _))
      fun _ => he.trans (acts_beginFlywheel _ t)

theorem acts_takePayloadWord (s : State) (w : CellWord) : Acts s (takePayloadWord s w) := by
  unfold takePayloadWord
  split
  · exact .refl _
  · have h (f : Frame) : Acts s (gather (setFrame s f) w) := (acts_setTracker s _).trans (.within (within_gather _ w))
    exact .ite (fun _ => .refl _) fun _ => .ite (fun _ => h _) fun _ =>
      ((h _).trans (acts_setTracker _ _)).trans (acts_endPayload _)

theorem acts_laneGone (s : State) (i : LaneId) : Acts s (laneGone s i) := .within (within_laneGone s i)

/-! ### Link controller -/

theorem acts_setAttempt (s : State) (a : Option Attempt) : Acts s (setLink s { s.lnk with attempt := a }) := by
  have h : Within [.line] s (setLink s { s.lnk with attempt := a }) := by
    intro p hp; cases p <;> first | exact absurd (by decide) hp | simp [sameIn]
  exact .within h

theorem acts_contend (s : State) (rivals : List ArbField) : Acts s (contend s rivals) := by
  unfold contend
  refine .ite (fun _ => .refl _) (fun _ => ?_)
  split
  · exact .refl _
  · rename_i e q hq
    refine .ite (fun _ => .trans (acts_setAttempt s (some (takeMessage s e))) (.one (.rewrite _ _ ?_))) (fun _ => .refl _)
    rw [setLink_lnk]
    simp only [hq]
    rfl

theorem acts_clearQueue (s : State) (keep : Entry → Bool) : Acts s (clearQueue s keep) :=
  (acts_withdraw s _).trans (.foldl acts_tellStore _ _)

theorem acts_enterQuiesced (s : State) : Acts s (enterQuiesced s) :=
  ((Acts.within (within_setMode s _)).trans (acts_clearQueue _ _)).trans (.within (within_settleClaims _))

theorem acts_endDraining (s : State) : Acts s (endDraining s) := by
  have h (m : Mode) : Acts s (leaveDraining s m) := .within (within_leaveDraining s m)
  unfold endDraining
  dsimp only
  split
  · exact (h _).trans (acts_enterQuiesced _)
  · exact (h _).trans (acts_offerNotice _ (by simp) (by simp))
  · exact h _

theorem acts_tellOwner (s : State) (e : Entry) : Acts s (tellOwner s e) := by
  unfold tellOwner
  split
  · exact acts_tellStore s e
  · exact acts_testNotice s
  · exact .refl _

theorem acts_resolve (s : State) (x : StreamId) (f : FrameCount) (k : Option Nat) : Acts s (resolve s x f k) :=
  ((acts_withdraw s _).trans (acts_freeRecord _ x f)).trans (acts_moveCursor _ x f k)

theorem acts_offLine (s : State) : Acts s (offLine s) := acts_setAttempt s none

theorem acts_removeEntry (s : State) (uid : Nat) : Acts s (removeEntry s uid) := acts_withdraw s _

theorem acts_failAttempt (s : State) (a : Attempt) : Acts s (failAttempt s a) := by
  have h := acts_offLine s
  unfold failAttempt
  dsimp only
  split
  · exact h
  · refine h.trans (.ite (fun _ => acts_updateEntry _ _ _ (fun _ => rfl)) fun _ => .ite (fun _ => ?_)
      fun _ => acts_updateEntry _ _ _ (fun _ => rfl))
    exact ((acts_removeEntry _ _).trans (acts_countLinkDrop _)).trans (acts_tellOwner _ _)

theorem acts_entrySent (s : State) (e : Entry) : Acts s (entrySent s e) := by
  have h := (acts_removeEntry s e.uid).trans (acts_tellOwner (removeEntry s e.uid) e)
  unfold entrySent
  exact .ite (fun _ => h.trans (acts_endDraining _)) fun _ => .ite (fun _ => h.trans (acts_enterQuiesced _)) fun _ => h

theorem acts_completeAttempt (s : State) (a : Attempt) : Acts s (completeAttempt s a) := by
  have h := acts_offLine s
  unfold completeAttempt
  dsimp only
  split
  · exact h.trans (acts_resolve _ _ _ _)
  · exact h.trans (acts_resolve _ _ _ _)
  · split
    · exact h
    · exact h.trans (.ite (fun _ => acts_updateEntry _ _ _ (fun _ => rfl)) fun _ => acts_entrySent _ _)

theorem acts_endAttempt (s : State) (rejected : Bool) : Acts s (endAttempt s rejected) := by
  unfold endAttempt
  split
  · exact .refl _
  · exact .ite (fun _ => acts_failAttempt s _) (fun _ => acts_completeAttempt s _)

theorem acts_abortAttempt (s : State) : Acts s (abortAttempt s) := by
  unfold abortAttempt
  split
  · exact .refl _
  · exact acts_failAttempt s _

/-- A change of the line that leaves queue and entry numbers. -/
theorem acts_setLine (s : State) (l : Link) (hq : l.queue = s.lnk.queue := by rfl) (hu : l.nextUid = s.lnk.nextUid := by rfl) :
    Acts s (setLink s l) := by
  have h : Within [.line] s (setLink s l) := by
    intro p hp; cases p <;> first | exact absurd (by decide) hp | simp [sameIn, hq, hu]
  exact .within h

theorem acts_enterListening (s : State) : Acts s (enterListening s) :=
  ((acts_setLine s _).trans (acts_armAdoption _)).trans (.within (within_settleClaims _))

theorem acts_enterFault (s : State) (r : FaultRecord) (x : Option Instant) : Acts s (enterFault s r x) :=
  .within (within_enterFault s r x)

theorem acts_duplicateFault (s : State) : Acts s (duplicateFault s) := .within (within_duplicateFault s)

theorem acts_hear (s : State) (k : MsgKind) (m : LinkMessage) (owner : State → State) (h : ∀ s, Acts s (owner s)) :
    Acts s (hear s k m owner) := by
  have he (x : EndSlot) : Acts s (setEndSlot s x) := .within (within_setEndSlot s x)
  unfold hear
  exact .ite (fun _ => .refl _) fun _ => .ite (fun _ => he _) fun _ => (he _).trans (.ite (fun _ => acts_countControlError _)
    fun _ => .ite (fun _ => acts_duplicateFault _) fun _ => h _)

theorem acts_receive (s : State) (k : MsgKind) (m : Incoming) (owner : State → LinkMessage → State)
    (h : ∀ s m, Acts s (owner s m)) : Acts s (receive s k m owner) := by
  unfold receive
  split
  · unfold completeOwn
    split
    · exact .ite (fun _ => acts_completeAttempt s _) (fun _ => .refl _)
    · exact .refl _
  · exact acts_hear s k _ _ (fun s => h s _)

theorem acts_live (t : Instant) (s : State) (f : State → State) (h : ∀ s, Acts s (f s)) : Acts s (live t s f) := by
  have hc : Acts s (s.clocked t) := .within (within_clocked s t)
  unfold live
  exact .ite (fun _ => hc) fun _ => (hc.trans (h _)).trans (.within (within_settleClaims _))

/-! ### Mode controller and requests -/

theorem acts_hearStatus (s : State) (m : LinkMessage) : Acts s (hearStatus s m) := by
  unfold hearStatus
  refine .trans ?_ (acts_raiseMarks _ _)
  refine .trans ?_ (acts_weighStatus _ _)
  refine .trans ?_ (.within (within_tieBreak _ _))
  exact (Acts.within (within_setPeer s _ _)).trans (.ite (fun _ => acts_adoptSubscriptions _ _) fun _ => .refl _)

/-- Freeing a record that stands takes records out of the store and puts none in. -/
theorem freeRecord_records_eq (s : State) (x : StreamId) (f : FrameCount) :
    (freeRecord s x f).pst.records = s.pst.records.filter (fun r => !(r.stream == x && r.frame == f)) := by
  cases h : recordOf s x f with
  | some r => rw [freeRecord_some h]
  | none =>
    rw [freeRecord_none h]
    refine (List.filter_eq_self.2 fun r hr => ?_).symm
    rw [Bool.not_eq_true', ← Bool.not_eq_true]
    exact List.find?_eq_none.1 h r hr

theorem foldl_freeRecord_records (rs : List ParcelRecord) (s : State) :
    (rs.foldl (fun s r => freeRecord s r.stream r.frame) s).pst.records =
      s.pst.records.filter (fun q => rs.all (fun r => !(q.stream == r.stream && q.frame == r.frame))) := by
  induction rs generalizing s with
  | nil => simp
  | cons r rs ih =>
    rw [List.foldl_cons, ih, freeRecord_records_eq, List.filter_filter]
    refine List.filter_congr fun q _ => ?_
    rw [List.all_cons, Bool.and_comm]

/-- The records that `freeRecords` leaves: those of a stream-frame of which no record was chosen. -/
theorem freeRecords_records (s : State) (p : ParcelRecord → Bool) :
    (freeRecords s p).pst.records =
      s.pst.records.filter (fun q => (s.pst.records.filter p).all (fun r => !(q.stream == r.stream && q.frame == r.frame))) :=
  foldl_freeRecord_records _ s

/-- None of the records left is one that was to be freed. -/
theorem freeRecords_none_left {s : State} {p : ParcelRecord → Bool} {r : ParcelRecord}
    (h : r ∈ (freeRecords s p).pst.records) : r ∈ s.pst.records ∧ p r = false := by
  rw [freeRecords_records, List.mem_filter, List.all_eq_true] at h
  obtain ⟨hr, hall⟩ := h
  refine ⟨hr, ?_⟩
  by_contra hp
  have := hall r (List.mem_filter.2 ⟨hr, by simpa using hp⟩)
  simp at this

@[simp] theorem emptyStore_records (s : State) : (emptyStore s).pst.records = [] :=
  List.eq_nil_iff_forall_not_mem.2 fun r hr => by simpa using (freeRecords_none_left hr).2

/-- Freeing takes entries out of the queue and puts none in. -/
theorem freeRecord_queue_sublist (s : State) (x : StreamId) (f : FrameCount) :
    (freeRecord s x f).lnk.queue.Sublist s.lnk.queue := by
  cases h : recordOf s x f with
  | none => rw [freeRecord_none h]
  | some r =>
    rw [freeRecord_some h]
    dsimp only
    split
    · exact List.filter_sublist
    · exact .refl _

theorem tellStore_queue_sublist (s : State) (e : Entry) : (tellStore s e).lnk.queue.Sublist s.lnk.queue := by
  unfold tellStore
  split
  · exact freeRecord_queue_sublist s _ _
  · exact .refl _

theorem freeRecord_records_sublist (s : State) (x : StreamId) (f : FrameCount) :
    (freeRecord s x f).pst.records.Sublist s.pst.records := by
  rw [freeRecord_records_eq]
  exact List.filter_sublist

theorem tellStore_records_sublist (s : State) (e : Entry) : (tellStore s e).pst.records.Sublist s.pst.records := by
  unfold tellStore
  split
  · exact freeRecord_records_sublist s _ _
  · exact .refl _

theorem foldl_sublist {α β : Type} {f : State → α → State} (get : State → List β)
    (h : ∀ s x, (get (f s x)).Sublist (get s)) (l : List α) (s : State) : (get (l.foldl f s)).Sublist (get s) := by
  induction l generalizing s with
  | nil => exact .refl _
  | cons x xs ih => exact (ih (f s x)).trans (h s x)

/-- Clearing the queue leaves none but the entries kept. -/
theorem clearQueue_queue_sublist (s : State) (keep : Entry → Bool) :
    (clearQueue s keep).lnk.queue.Sublist (s.lnk.queue.filter keep) := by
  have h := foldl_sublist (·.lnk.queue) tellStore_queue_sublist (s.lnk.queue.filter (fun e => !keep e))
    (withdraw s (fun e => !keep e))
  simpa [clearQueue, withdraw] using h

theorem clearQueue_records_sublist (s : State) (keep : Entry → Bool) :
    (clearQueue s keep).pst.records.Sublist s.pst.records :=
  foldl_sublist (·.pst.records) tellStore_records_sublist _ (withdraw s (fun e => !keep e))

@[simp] theorem abandonAll_records (s : State) : (abandonAll s).pst.records = [] := by
  have h := clearQueue_records_sublist (emptyStore (emptyArrivals (stopEngines s))) isStatusEntry
  rw [emptyStore_records] at h
  exact List.sublist_nil.1 h

theorem abandonAll_queue {s : State} {e : Entry} (h : e ∈ (abandonAll s).lnk.queue) : e.kind = .status := by
  have := (clearQueue_queue_sublist _ isStatusEntry).subset h
  simpa [isStatusEntry] using (List.mem_filter.1 this).2

theorem acts_abandonAll (s : State) : Acts s (abandonAll s) :=
  ((acts_stopEngines s).trans (.within (within_emptyArrivals _))).trans ((acts_emptyStore _).trans (acts_clearQueue _ _))

theorem acts_forgetEnsemble {s : State} (hq : ∀ e ∈ s.lnk.queue, e.kind = .status) (hr : s.pst.records = []) :
    Acts s (forgetEnsemble s) :=
  ((acts_setMaps s MapUnit.reset).trans (.one (.forget _ hq hr))).trans (.within (within_emptySlots _))

theorem acts_ensembleChange (s : State) (id : EnsembleId) : Acts s (ensembleChange s id) := by
  have h : Acts s (retune (forgetEnsemble (abandonAll (enterDraining s))) id) :=
    ((Acts.within (within_enterDraining s)).trans (acts_abandonAll _)).trans
      ((acts_forgetEnsemble (fun _ he => abandonAll_queue he) (abandonAll_records _)).trans (acts_setTracker _ _))
  exact (h.trans (.ite (fun _ => .within (within_setStatusTimer _ _)) fun _ => .refl _)).trans
    (acts_offerNotice _ (by simp) (by simp))

theorem acts_relisten (s : State) : Acts s (relisten s) := by
  unfold relisten
  split
  · exact acts_enterListening s
  · exact (acts_setLine s _).trans (acts_armAdoption _)
  · exact .refl _
  · exact .refl _

theorem acts_restart (s : State) : Acts s (restart s) := by
  unfold restart
  refine .ite (fun _ => .refl _) (fun _ => ?_)
  exact (((Acts.within (within_setMode s _)).trans (acts_stopEngines _)).trans
    ((acts_emptyStore _).trans (acts_clearQueue _ _))).trans
      (((acts_setMaps _ _).trans (.within (within_settleClaims _))).trans ((acts_relisten _).trans (acts_restartPass _)))

theorem acts_quiesce (s : State) : Acts s (quiesce s) := by
  unfold quiesce
  refine .ite (fun _ => ?_) (fun _ => .refl _)
  exact (((Acts.within (within_setMode s _)).trans (acts_quiesceJobs _)).trans
    ((acts_withdraw _ _).trans (acts_emptyStore _))).trans
      ((Acts.within (within_settleClaims _)).trans (acts_reportIdle _))

theorem acts_resumeWork (s : State) : Acts s (resumeWork s) :=
  (((Acts.within (within_setMode s _)).trans (acts_resumeContexts _)).trans
    ((acts_withdraw _ _).trans (acts_testNotice _))).trans (acts_settleJobs _)

theorem acts_resume (s : State) : Acts s (resume s) := by
  unfold resume
  split
  · exact acts_resumeWork s
  · exact acts_resumeWork s
  · refine .ite (fun _ => ?_) (fun _ => .refl _)
    have h : Within [.mode] s { s with mod := { s.mod with returnMode := some .running } } := by
      intro p hp; cases p <;> first | exact absurd (by decide) hp | simp [sameIn]
    exact .within h
  · exact .refl _
  · exact .refl _

end Sys2Proof.Machine

/-! PROOFS. Every command, and so every step, as a chain of acts. -/

namespace Sys2Proof.Machine

-- one theorem at a time: elaborated side by side, they would hold more threads than the check allows
set_option Elab.async false

/-! ### Every command -/

theorem acts_setLane (s : State) (i : LaneId) (l : Lane) : Acts s (setLane s i l) := .within (within_setLane s i l)

theorem acts_corruptWord (s : State) (i : LaneId) : Acts s (corruptWord s i) := by
  unfold corruptWord
  exact .ite (fun _ => .refl _) fun _ => .ite (fun _ => (acts_setLane _ _ _).trans (acts_laneGone _ _)) fun _ =>
    acts_setLane _ _ _

/-- Every command but the two of RESET_N answers a next state that a chain of acts leads to. -/
theorem exec_acts (c : Instr) (s : State) (hc : isPinReset c = false) : ∃ u, exec c s = .next u ∧ Acts s u := by
  cases c with
  | pinResetAssert t => cases hc
  | pinResetRelease t straps => cases hc
  | equaliserAutoZero t i pol =>
    exact ⟨_, rfl, acts_live t s _ fun s => .ite (fun _ => acts_setLane _ _ _) fun _ => .refl _⟩
  | lockReport t i => exact ⟨_, rfl, acts_live t s _ fun s => .ite (fun _ => acts_setLane _ _ _) fun _ => .refl _⟩
  | acquireTimeout t i => exact ⟨_, rfl, acts_live t s _ fun s => .ite (fun _ => acts_setLane _ _ _) fun _ => .refl _⟩
  | wordBoundaryFound t i => exact ⟨_, rfl, acts_live t s _ fun s => .ite (fun _ => acts_setLane _ _ _) fun _ => .refl _⟩
  | lossOfLock t i =>
    refine ⟨_, rfl, acts_live t s _ fun s => ?_⟩
    dsimp only
    split
    · exact (acts_setLane _ _ _).trans (acts_laneGone _ _)
    · exact acts_setLane _ _ _
    · exact .refl _
    · exact .refl _
  | oneShotTuneEnd t i => exact ⟨_, rfl, acts_live t s _ fun s => .ite (fun _ => acts_setLane _ _ _) fun _ => .refl _⟩
  | cellWord t i a w b =>
    refine ⟨_, rfl, acts_live t s _ fun s => .ite (fun _ => .refl _) fun _ => .ite (fun _ => acts_setLane _ _ _) fun _ => ?_⟩
    split
    · exact (acts_setLane _ _ _).trans (acts_takePayloadWord _ _)
    · exact .ite (fun _ => (acts_setLane _ _ _).trans (acts_takeControlWord _ _ _)) fun _ => acts_setLane _ _ _
  | frameStartMarker t i =>
    exact ⟨_, rfl, acts_live t s _ fun s => .ite (fun _ => .refl _) fun _ => .ite
      (fun _ => (acts_setLane _ _ _).trans (acts_markerArrival _)) fun _ =>
        (acts_setLane _ _ _).trans (acts_setTracker _ _)⟩
  | frontEndStatus t i present quality =>
    exact ⟨_, rfl, acts_live t s _ fun s => .ite (fun _ => .refl _) fun _ => .ite
      (fun _ => (acts_setLane _ _ _).trans (acts_endReception _)) fun _ => acts_setLane _ _ _⟩
  | idle t i => exact ⟨_, rfl, acts_live t s _ fun s => .ite (fun _ => .refl _) fun _ => acts_setLane _ _ _⟩
  | corruptControlWord t i => exact ⟨_, rfl, acts_live t s _ fun s => acts_corruptWord s i⟩
  | fourthCorruptControlWord t i => exact ⟨_, rfl, acts_live t s _ fun s => acts_corruptWord s i⟩
  | markerWindowClose t =>
    refine ⟨_, rfl, acts_live t s _ fun s => ?_⟩
    split
    · exact .ite (fun _ => acts_closeWindow s _) fun _ => .refl _
    · exact .refl _
  | flywheelPayloadEnd t =>
    refine ⟨_, rfl, acts_live t s _ fun s => ?_⟩
    split
    · exact .ite (fun _ => acts_endPayload s) fun _ => .refl _
    · exact .refl _
  | entryToLost t =>
    refine ⟨_, rfl, acts_live t s _ fun s => ?_⟩
    split
    · exact .ite (fun _ => acts_enterLost s) fun _ => .refl _
    · exact .refl _
  | releaseInstant t f =>
    refine ⟨_, rfl, acts_live t s _ fun s => ?_⟩
    split
    · exact (acts_setTracker s _).trans (acts_releaseEvent _ _ _)
    · exact .refl _
  | contextMoveComplete t e => exact ⟨_, rfl, acts_live t s _ fun s => acts_completeMove s e⟩
  | decodeEnd t e found => exact ⟨_, rfl, acts_live t s _ fun s => acts_endDecoding s e found⟩
  | offerInstant t x f =>
    refine ⟨_, rfl, acts_live t s _ fun s => ?_⟩
    split
    · exact .ite (fun _ => acts_handOver s _) fun _ => .refl _
    · exact .refl _
  | discardInstant t x f =>
    refine ⟨_, rfl, acts_live t s _ fun s => ?_⟩
    split
    · exact .ite (fun _ => acts_freeRecord s x f) fun _ => .refl _
    · exact .refl _
  | statusTimer t =>
    exact ⟨_, rfl, acts_live t s _ fun s => .ite
      (fun _ => (Acts.within (within_setStatusTimer s _)).trans (acts_cadencePoint _)) fun _ => .refl _⟩
  | noticeHoldOff t =>
    exact ⟨_, rfl, acts_live t s _ fun s => .ite (fun _ => (acts_setMaps s _).trans (acts_testNotice _)) fun _ => .refl _⟩
  | deadline t x =>
    refine ⟨_, rfl, acts_live t s _ fun s => ?_⟩
    split
    · rename_i c hcur
      split
      · rename_i f d hf hd
        exact .ite (fun _ => acts_expireDeadline (by rw [cursorFrame, hcur]; exact hf)) fun _ => .refl _
      · exact .refl _
    · exact .refl _
  | contention t rivals => exact ⟨_, rfl, acts_live t s _ fun s => acts_contend s rivals⟩
  | attemptEnd t rejected => exact ⟨_, rfl, acts_live t s _ fun s => acts_endAttempt s rejected⟩
  | reject t start bits =>
    exact ⟨_, rfl, acts_live t s _ fun s => .ite (fun _ => .refl _) fun _ => .within (within_setEndSlot s _)⟩
  | duplicateEvent t how =>
    refine ⟨_, rfl, acts_live t s _ fun s => ?_⟩
    split
    · exact .ite (fun _ => (acts_abortAttempt s).trans (acts_duplicateFault _)) fun _ => .refl _
    · exact acts_duplicateFault s
  | lineStuck t =>
    exact ⟨_, rfl, acts_live t s _ fun s => .ite (fun _ => .refl _) fun _ =>
      ((acts_abortAttempt s).trans (acts_enterFault _ _ _)).trans (acts_setLine _ _)⟩
  | lineGoesRecessive t => exact ⟨_, rfl, acts_live t s _ fun s => .ite (fun _ => acts_setLine s _) fun _ => .refl _⟩
  | recoveryTimer t => exact ⟨_, rfl, acts_live t s _ fun s => .ite (fun _ => acts_enterListening s) fun _ => .refl _⟩
  | joinTimer t =>
    exact ⟨_, rfl, acts_live t s _ fun s => .ite (fun _ =>
      ((acts_setLine s _).trans (acts_spendMark _)).trans (.within (within_endRestarting _))) fun _ => .refl _⟩
  | peerAging t p => exact ⟨_, rfl, acts_live t s _ fun s => .ite (fun _ => .within (within_setPeer s _ _)) fun _ => .refl _⟩
  | parcel t m => exact ⟨_, rfl, acts_live t s _ fun s => acts_receive s _ m _ fun s m => acts_resolve s _ _ _⟩
  | gap t m => exact ⟨_, rfl, acts_live t s _ fun s => acts_receive s _ m _ fun s m => acts_resolve s _ _ _⟩
  | status t m => exact ⟨_, rfl, acts_live t s _ fun s => acts_receive s _ m _ acts_hearStatus⟩
  | map t m => exact ⟨_, rfl, acts_live t s _ fun s => acts_receive s _ m _ fun s m => acts_hearNotice s _⟩
  | trace t m => exact ⟨_, rfl, acts_live t s _ fun s => acts_receive s _ m _ fun s _ => .refl s⟩
  | drained t m => exact ⟨_, rfl, acts_live t s _ fun s => acts_receive s _ m _ fun s _ => .refl s⟩
  | quiesced t m => exact ⟨_, rfl, acts_live t s _ fun s => acts_receive s _ m _ fun s _ => .refl s⟩
  | subscribe t m => exact ⟨_, rfl, acts_live t s _ fun s => acts_hear s _ m _ fun s => acts_applySubscribe s _⟩
  | release t m => exact ⟨_, rfl, acts_live t s _ fun s => acts_hear s _ m _ fun s => acts_applyRelease s _ _⟩
  | ensembleChange t m => exact ⟨_, rfl, acts_live t s _ fun s => acts_hear s _ m _ fun s => acts_ensembleChange s _⟩
  | restart t m =>
    exact ⟨_, rfl, acts_live t s _ fun s => acts_hear s _ m _ fun s => .ite (fun _ => acts_restart s) fun _ => .refl _⟩
  | quiesce t m =>
    exact ⟨_, rfl, acts_live t s _ fun s => acts_hear s _ m _ fun s => .ite (fun _ => acts_quiesce s) fun _ => .refl _⟩
  | resume t m =>
    exact ⟨_, rfl, acts_live t s _ fun s => acts_hear s _ m _ fun s => .ite (fun _ => acts_resume s) fun _ => .refl _⟩
  | unknownKindMessage t code m =>
    exact ⟨_, rfl, acts_live t s _ fun s => .ite (fun _ => .refl _) fun _ => .ite
      (fun _ => .within (within_setEndSlot s _)) fun _ => (Acts.within (within_setEndSlot s _)).trans
        (acts_countControlError _)⟩

theorem acts_of_exec {c : Instr} {s u : State} (hc : isPinReset c = false) (h : exec c s = .next u) : Acts s u := by
  obtain ⟨v, hv, ha⟩ := exec_acts c s hc
  rw [h] at hv
  cases hv
  exact ha

/-- A law that every act keeps, that does not speak of the queue of commands, and that holds of the part held and of the
part after pin reset, is kept by every step. -/
theorem step_keeps {P : State → Prop} (acts : ∀ a b, Act a b → P a → P b)
    (held : ∀ s now, P (heldState s now)) (reset : ∀ now straps pending, P (State.afterPinReset now straps pending))
    {s u : State} (hs : ∀ rest, P { s with pending := rest }) (h : step s = .next u) : P u := by
  unfold step at h
  split at h
  · cases h
    exact hs s.pending
  · rename_i c rest _
    by_cases hc : isPinReset c = true
    · cases c with
      | pinResetAssert t => cases h; exact held _ _
      | pinResetRelease t straps => cases h; exact reset _ _ _
      | _ => cases hc
    · exact (acts_of_exec (by simpa using hc) h).keeps acts (hs rest)

end Sys2Proof.Machine

/-! PROOFS. O54, O55: the laws of the transmit queue, and of pages and records. -/

namespace Sys2Proof.Machine

-- one theorem at a time: elaborated side by side, they would hold more threads than the check allows
set_option Elab.async false

/-! ### A table change, as any law sees it -/

/-- A law that freeing a record and withdrawing GAPs keep, and that reads neither subscriptions nor cursors, is kept by a
table change. -/
theorem tableChange_keeps {P : State → Prop} (free : ∀ s x f, P s → P (freeRecord s x f))
    (gaps : ∀ s x, P s → P (withdrawGaps s x)) (rest : ∀ a b, Within [.table, .claims, .cursors] a b → P a → P b)
    {s : State} (h : P s) (t : List Subscription) : P (tableChange s t) := by
  have keepsFold {α : Type} {f : State → α → State} (hf : ∀ s x, P s → P (f s x)) (l : List α) (s : State) (hs : P s) :
      P (l.foldl f s) := by
    induction l generalizing s with
    | nil => exact hs
    | cons x xs ih => exact ih _ (hf s x hs)
  unfold tableChange
  refine rest _ _ (within_claimReview _).mono (keepsFold (fun s x hs => ?_) _ _ (keepsFold (fun s x hs => ?_) _ _ ?_))
  · refine keepsFold (fun s (r : ParcelRecord) hs => free s r.stream r.frame hs) _ _ (gaps _ _ (rest s _ ?_ hs))
    intro p hp; cases p <;> first | exact absurd (by decide) hp | simp [sameIn]
  · exact rest s _ (within_addCursor s x).mono hs
  · refine rest s _ (.trans ?_ (within_classReview _).mono) h
    intro p hp; cases p <;> first | exact absurd (by decide) hp | simp [sameIn]

/-! ### The transmit queue (R125, R126) -/

/-- Entries for different matters: the law that R126 keeps. -/
abbrev Entry.apart (a b : Entry) : Prop := ¬(a.kind = b.kind ∧ a.stream = b.stream ∧ a.frame = b.frame)

theorem QueueSound.congr {a b : State} (h : QueueSound a) (hq : b.lnk.queue = a.lnk.queue) : QueueSound b := by
  unfold QueueSound
  rw [hq]
  exact h

theorem QueueSound.sublist {a b : State} (h : QueueSound a) (hq : b.lnk.queue.Sublist a.lnk.queue) : QueueSound b := by
  obtain ⟨hlen, hasc, hdiff⟩ := h
  exact ⟨hq.length_le.trans hlen, hasc.sublist hq, hdiff.sublist hq⟩

/-- The laws of the queue go by the keys of its entries alone. -/
theorem QueueSound.rewrite {a b : State} (h : QueueSound a) (hq : b.lnk.queue.map Entry.key = a.lnk.queue.map Entry.key) :
    QueueSound b := by
  obtain ⟨hlen, hasc, hdiff⟩ := h
  have hlen' : b.lnk.queue.length = a.lnk.queue.length := by simpa using congrArg List.length hq
  have hasc' : (b.lnk.queue.map Entry.key).Pairwise (fun a b => a.2.2.2 ≤ b.2.2.2) := by
    rw [hq]
    exact List.pairwise_map.2 hasc
  have hdiff' : (b.lnk.queue.map Entry.key).Pairwise (fun a b => ¬(a.1 = b.1 ∧ a.2.1 = b.2.1 ∧ a.2.2.1 = b.2.2.1)) := by
    rw [hq]
    exact List.pairwise_map.2 hdiff
  refine ⟨hlen' ▸ hlen, ?_, ?_⟩
  · exact (List.pairwise_map
      (R := fun a b : MsgKind × Option StreamId × Option FrameCount × ArbField => a.2.2.2 ≤ b.2.2.2)).1 hasc'
  · exact List.pairwise_map.1 hdiff'

/-- An entry put into its place among entries for other matters. -/
theorem placeEntry_apart {q : List Entry} {e : Entry} (h : q.Pairwise Entry.apart) (hn : ∀ x ∈ q, Entry.apart e x) :
    (placeEntry e q).Pairwise Entry.apart := by
  have hsymm {a b : Entry} (h : Entry.apart a b) : Entry.apart b a := fun ⟨hk, hs, hf⟩ => h ⟨hk.symm, hs.symm, hf.symm⟩
  induction q with
  | nil => exact List.pairwise_singleton _ _
  | cons z zs ih =>
    obtain ⟨hz, hzs⟩ := List.pairwise_cons.1 h
    unfold placeEntry insertBy
    split
    · exact .cons hn h
    · refine .cons (fun f hf => ?_) (ih hzs fun x hx => hn x (List.mem_cons_of_mem _ hx))
      rcases mem_placeEntry.1 hf with rfl | hf
      · exact hsymm (hn z (List.mem_cons_self ..))
      · exact hz f hf

theorem apart_of_not_queued {s : State} {e x : Entry} (h : queued s e.kind e.stream e.frame = false) (hx : x ∈ s.lnk.queue) :
    Entry.apart e x := by
  rintro ⟨hk, hs, hf⟩
  rw [queued, List.any_eq_false] at h
  exact h x hx (by simp [entryMatches, hk, hs, hf])

theorem QueueSound.insert {s : State} {q : List Entry} {e : Entry} (hs : QueueSound s) (h : q.Sublist s.lnk.queue)
    (room : q.length < 24 ∨ q.length < s.lnk.queue.length) (new : queued s e.kind e.stream e.frame = false) :
    QueueSound (insertNew (setQueue s q) e) := by
  obtain ⟨hlen, hasc, hdiff⟩ := hs
  refine ⟨?_, placeEntry_sorted (hasc.sublist h) _, placeEntry_apart (hdiff.sublist h) fun x hx => ?_⟩
  · rw [insertNew, length_placeEntry]
    show q.length + 1 ≤ 24
    omega
  · exact apart_of_not_queued new (h.subset hx)

theorem evict_queue_sublist (s : State) (vs : List ParcelRecord) : (evict s vs).lnk.queue.Sublist s.lnk.queue := by
  refine foldl_sublist (·.lnk.queue) (fun s r => ?_) vs s
  dsimp only
  split <;> exact freeRecord_queue_sublist s _ _

theorem act_keeps_queueSound (a b : State) (h : Act a b) (ha : QueueSound a) : QueueSound b := by
  cases h with
  | aside h => exact ha.congr h.queue
  | count h => exact ha.congr h.queue
  | thin q h => exact ha.sublist h
  | rewrite q h => exact ha.rewrite h
  | insert q e h room new => exact ha.insert h room new
  | free x f => exact ha.sublist (freeRecord_queue_sublist a x f)
  | update x f g => exact ha.congr (within_updateRecord a x f g).queue
  | fill j o vs =>
    exact (ha.sublist (evict_queue_sublist a vs)).congr (within_fillRecord _ j o).queue
  | mark => exact ha
  | advance x f g => exact ha.sublist List.filter_sublist
  | unset x => exact ha.sublist List.filter_sublist
  | retable t =>
    exact tableChange_keeps (fun s x f hs => hs.sublist (freeRecord_queue_sublist s x f))
      (fun s x hs => hs.sublist List.filter_sublist) (fun _ _ hw hs => hs.congr hw.queue) ha t
  | forget => exact ha
  | create => exact ha
  | rejob => exact ha
  | assign => exact ha
  | finish => exact ha
  | leave => exact ha
  | stop => exact ha

theorem queueSound_of_empty {s : State} (h : s.lnk.queue = []) : QueueSound s := by
  unfold QueueSound
  rw [h]
  exact ⟨Nat.zero_le _, .nil, .nil⟩

/-- Settles O54: every act keeps the laws of the queue. -/
theorem stepKeepsQueueSound : Obligations.StepKeepsQueueSound := fun _ _ hs h =>
  step_keeps act_keeps_queueSound (fun _ _ => queueSound_of_empty rfl) (fun _ _ _ => queueSound_of_empty rfl)
    (fun _ => hs.congr rfl) h

/-! ### Pages and records (R99, R100) -/

/-- The stream-frame of a record. -/
abbrev ParcelRecord.key (r : ParcelRecord) : StreamId × FrameCount := (r.stream, r.frame)

theorem PagesSound.congr {a b : State} (h : PagesSound a) (hr : b.pst.records = a.pst.records)
    (hf : b.pst.freePages = a.pst.freePages) : PagesSound b := by
  unfold PagesSound
  rw [hr, hf]
  exact h

theorem PagesSound.within {ps : List Part} {a b : State} (h : PagesSound a) (hw : Within ps a b)
    (hp : Part.store ∉ ps := by decide) : PagesSound b :=
  h.congr (hw.records hp) (hw.freePages hp)

/-- Where no two elements share a key, a filter that refuses one element's key leaves the others. -/
theorem perm_cons_filter_key {α β : Type} {key : α → β} {p : α → Bool} {l : List α} {a : α} (hn : (l.map key).Nodup)
    (ha : a ∈ l) (hp : ∀ b, p b = true ↔ key b ≠ key a) : l.Perm (a :: l.filter p) := by
  induction l with
  | nil => cases ha
  | cons b l ih =>
    obtain ⟨hb, hn⟩ := List.nodup_cons.1 hn
    rcases List.mem_cons.1 ha with rfl | ha
    · have hall : l.filter p = l :=
        List.filter_eq_self.2 fun c hc => (hp c).2 fun h => hb (h ▸ List.mem_map_of_mem hc)
      rw [List.filter_cons_of_neg (fun h => (hp a).1 h rfl), hall]
    · rw [List.filter_cons_of_pos ((hp b).2 fun h => hb (h ▸ List.mem_map_of_mem ha))]
      exact ((ih hn ha).cons b).trans (.swap _ _ _)

/-- What freeing a record that stands leaves in the store. -/
theorem perm_freeRecord {s : State} {x : StreamId} {f : FrameCount} {r : ParcelRecord} (hs : PagesSound s)
    (h : recordOf s x f = some r) : s.pst.records.Perm (r :: (freeRecord s x f).pst.records) := by
  obtain ⟨-, hn, -⟩ := hs
  obtain ⟨hr, rfl, rfl⟩ := recordOf_key h
  rw [freeRecord_records_eq]
  exact perm_cons_filter_key hn hr fun q => by simp [imp_iff_not_or]

theorem PagesSound.freeRecord {s : State} (h : PagesSound s) (x : StreamId) (f : FrameCount) :
    PagesSound (freeRecord s x f) := by
  cases hr : recordOf s x f with
  | none =>
    rw [freeRecord_none hr]
    exact h
  | some r =>
    have hp := perm_freeRecord h hr
    obtain ⟨hlen, hn, hpages⟩ := h
    have hsub := freeRecord_records_sublist s x f
    refine ⟨hsub.length_le.trans hlen, hn.sublist (hsub.map _), .trans ?_ hpages⟩
    have hfree : (Machine.freeRecord s x f).pst.freePages = s.pst.freePages ++ r.pages := by rw [freeRecord_some hr]
    rw [hfree, List.append_assoc]
    exact ((hp.flatMap_right (·.pages)).symm).append_left _

/-- A record changed but for its stream-frame and its pages. -/
theorem PagesSound.updateRecord {s : State} (h : PagesSound s) (x : StreamId) (f : FrameCount)
    {g : ParcelRecord → ParcelRecord} (hg : ∀ r, (g r).stream = r.stream ∧ (g r).frame = r.frame ∧ (g r).pages = r.pages) :
    PagesSound (Machine.updateRecord s x f g) := by
  obtain ⟨hlen, hn, hpages⟩ := h
  have hsame (r : ParcelRecord) : ParcelRecord.key (if r.stream == x && r.frame == f then g r else r) = r.key ∧
      (if r.stream == x && r.frame == f then g r else r).pages = r.pages := by
    obtain ⟨hs, hf, hp⟩ := hg r
    split
    · exact ⟨by rw [ParcelRecord.key, hs, hf], hp⟩
    · exact ⟨rfl, rfl⟩
  refine ⟨?_, ?_, ?_⟩
  · simpa [Machine.updateRecord] using hlen
  · have hkeys : (Machine.updateRecord s x f g).pst.records.map ParcelRecord.key = s.pst.records.map ParcelRecord.key := by
      rw [Machine.updateRecord, List.map_map]
      exact List.map_congr_left fun r _ => (hsame r).1
    exact hkeys ▸ hn
  · rw [Machine.updateRecord, List.flatMap_map]
    rwa [List.flatMap_congr fun r _ => (hsame r).2]

/-! ### Making room (R110, R111) -/

theorem insertBy_perm {α : Type} (lt : α → α → Bool) (x : α) (l : List α) : (insertBy lt x l).Perm (x :: l) := by
  induction l with
  | nil => exact .refl _
  | cons y ys ih =>
    unfold insertBy
    split
    · exact .refl _
    · exact (ih.cons y).trans (.swap _ _ _)

theorem sortBy_perm {α : Type} (lt : α → α → Bool) (l : List α) : (sortBy lt l).Perm l := by
  induction l with
  | nil => exact .refl _
  | cons x xs ih => exact (insertBy_perm _ _ _).trans (ih.cons x)

/-- A copy is a candidate in one step of R111 at most, since each step takes records of other states. -/
theorem candidates_nodup {s : State} (hs : PagesSound s) (x : StreamId) (score : Nat) (usable : Bool) :
    ((candidates s x score usable).map ParcelRecord.key).Nodup ∧ ∀ r ∈ candidates s x score usable, r ∈ s.pst.records := by
  obtain ⟨-, hn, -⟩ := hs
  let rs := s.pst.records.filter (fun r => !onTheLine s r)
  have hrs : rs.Nodup := (List.Nodup.of_map _ hn).filter _
  have hmem {r : ParcelRecord} (h : r ∈ candidates s x score usable) : r ∈ s.pst.records := by
    have hsub : r ∈ rs → r ∈ s.pst.records := fun h => (List.mem_filter.1 h).1
    unfold candidates at h
    simp only [List.mem_append] at h
    rcases h with (h | h) | h
    · exact hsub (List.mem_filter.1 (mem_sortBy.1 h)).1
    · exact hsub (List.mem_filter.1 (mem_sortBy.1 h)).1
    · split at h
      · exact hsub (List.mem_filter.1 (mem_sortBy.1 h)).1
      · cases h
  have hA {r} (h : r ∈ staleCandidates s rs) : r.state = .held := by
    have := (List.mem_filter.1 (mem_sortBy.1 h)).2
    simp only [staleRecord, Bool.and_eq_true, beq_iff_eq] at this
    exact this.1
  have hB {r} (h : r ∈ speculativeCandidates s rs) : r.state = .specHeld := by
    simpa using (List.mem_filter.1 (mem_sortBy.1 h)).2
  have hC {r} (h : r ∈ if usable then worseCandidates s x score rs else []) : liveRecord r = true := by
    split at h
    · have := (List.mem_filter.1 (mem_sortBy.1 h)).2
      simp only [Bool.and_eq_true] at this
      exact this.1.1
    · cases h
  have hnodup : (candidates s x score usable).Nodup := by
    refine List.nodup_append.2 ⟨List.nodup_append.2 ⟨?_, ?_, ?_⟩, ?_, ?_⟩
    · exact (sortBy_perm _ _).nodup_iff.2 (hrs.filter _)
    · exact (sortBy_perm _ _).nodup_iff.2 (hrs.filter _)
    · rintro a ha _ hb rfl
      exact absurd ((hA ha).symm.trans (hB hb)) (by decide)
    · split
      · exact (sortBy_perm _ _).nodup_iff.2 (hrs.filter _)
      · exact .nil
    · rintro a ha _ hb rfl
      have hlive := hC hb
      rcases List.mem_append.1 ha with ha | ha
      · rw [liveRecord, hA ha] at hlive
        exact absurd hlive (by decide)
      · rw [liveRecord, hB ha] at hlive
        exact absurd hlive (by decide)
  exact ⟨hnodup.map_on fun a ha b hb hk => List.inj_on_of_nodup_map hn (hmem ha) (hmem hb) hk, fun _ => hmem⟩

/-- The victims chosen are the first candidates, as many as make room for one more record. -/
theorem chooseVictims_room {need free held : Nat} {cs vs : List ParcelRecord} (h : chooseVictims need free held cs = some vs) :
    vs <+: cs ∧ held - vs.length < recordLimit := by
  induction cs generalizing free held vs with
  | nil =>
    unfold chooseVictims at h
    split at h
    · cases h
      rename_i hr
      simp only [roomFor, Bool.and_eq_true, decide_eq_true_eq] at hr
      exact ⟨List.nil_prefix, hr.2⟩
    · cases h
  | cons c cs ih =>
    unfold chooseVictims at h
    split at h
    · cases h
      rename_i hr
      simp only [roomFor, Bool.and_eq_true, decide_eq_true_eq] at hr
      exact ⟨List.nil_prefix, hr.2⟩
    · obtain ⟨ws, hw, rfl⟩ := Option.map_eq_some_iff.1 h
      obtain ⟨hpre, hlt⟩ := ih hw
      refine ⟨(List.prefix_cons_inj c).2 hpre, ?_⟩
      rw [List.length_cons]
      omega

/-- Evicting records that stand, each once, takes as many from the store. -/
theorem evict_sound {s : State} (hs : PagesSound s) {vs : List ParcelRecord} (hn : (vs.map ParcelRecord.key).Nodup)
    (hm : ∀ r ∈ vs, r ∈ s.pst.records) :
    PagesSound (evict s vs) ∧ (evict s vs).pst.records.length + vs.length = s.pst.records.length ∧
      (evict s vs).pst.records.Sublist s.pst.records := by
  induction vs generalizing s with
  | nil => exact ⟨hs, rfl, .refl _⟩
  | cons r vs ih =>
    obtain ⟨hr, hn⟩ := List.nodup_cons.1 hn
    obtain ⟨q, hq⟩ : ∃ q, recordOf s r.stream r.frame = some q := by
      refine Option.isSome_iff_exists.1 (List.find?_isSome.2 ⟨r, hm r (List.mem_cons_self ..), ?_⟩)
      simp
    let s1 := if liveRecord r then countStoreDrop (freeRecord s r.stream r.frame) else freeRecord s r.stream r.frame
    have hrec : s1.pst.records = (freeRecord s r.stream r.frame).pst.records := by
      dsimp only [s1]
      split <;> rfl
    have hs1 : PagesSound s1 := (hs.freeRecord r.stream r.frame).congr hrec (by dsimp only [s1]; split <;> rfl)
    have hm1 : ∀ v ∈ vs, v ∈ s1.pst.records := by
      intro v hv
      rw [hrec, freeRecord_records_eq]
      refine List.mem_filter.2 ⟨hm v (List.mem_cons_of_mem _ hv), ?_⟩
      have : v.key ≠ r.key := fun h => hr (h ▸ List.mem_map_of_mem hv)
      simpa [imp_iff_not_or] using this
    obtain ⟨hsound, hlen, hsub⟩ := ih hs1 hn hm1
    have hone := (perm_freeRecord hs hq).length_eq
    rw [List.length_cons, ← hrec] at hone
    refine ⟨hsound, ?_, hsub.trans (hrec ▸ freeRecord_records_sublist s _ _)⟩
    rw [List.length_cons]
    show (evict s1 vs).pst.records.length + (vs.length + 1) = _
    omega

/-- A record is made on pages that leave the free-page list, room having been made for it (R110). -/
theorem PagesSound.fill {s : State} (hs : PagesSound s) {j : Job} {o : JobOutcome} {vs : List ParcelRecord}
    (room : victimsFor s j o = some vs) (new : recordOf s j.stream j.frame = none) :
    PagesSound (fillRecord (evict s vs) j o) := by
  obtain ⟨hpre, hlt⟩ := chooseVictims_room room
  obtain ⟨hn, hm⟩ := candidates_nodup hs j.stream o.score (!unusableCopy o.pass o.saturated)
  obtain ⟨⟨-, hnodup, hpages⟩, hlen, hsub⟩ :=
    evict_sound hs (hn.sublist (hpre.sublist.map _)) (fun r hr => hm r (hpre.subset hr))
  refine ⟨?_, ?_, ?_⟩
  · show ((evict s vs).pst.records ++ [_]).length ≤ 48
    rw [List.length_append, List.length_singleton]
    have : s.pst.records.length - vs.length < 48 := hlt
    omega
  · show (((evict s vs).pst.records ++ [_]).map _).Nodup
    rw [List.map_append, List.nodup_append]
    refine ⟨hnodup, List.nodup_singleton _, ?_⟩
    rintro a ha b hb rfl
    obtain ⟨r, hr, hra⟩ := List.mem_map.1 ha
    rw [List.map_singleton, List.mem_singleton, ← hra] at hb
    have := List.find?_eq_none.1 new r (hsub.subset hr)
    simp only [recordFrom, Prod.mk.injEq] at hb
    simp [hb] at this
  · show ((evict s vs).pst.freePages.drop _ ++ ((evict s vs).pst.records ++ [_]).flatMap _).Perm _
    rw [List.flatMap_append]
    refine .trans ?_ hpages
    have hsplit := List.take_append_drop (pagesFor o.parcel.length) (evict s vs).pst.freePages
    conv_rhs => rw [← hsplit]
    simp only [List.flatMap_cons, List.flatMap_nil, List.append_nil, recordFrom]
    rw [← List.append_assoc]
    exact List.perm_append_comm.trans (by rw [List.append_assoc])

theorem act_keeps_pagesSound (a b : State) (h : Act a b) (ha : PagesSound a) : PagesSound b := by
  cases h with
  | aside h => exact ha.within h
  | count h => exact ha.within h
  | thin q => exact ha
  | rewrite q => exact ha
  | insert q e => exact ha
  | free x f => exact ha.freeRecord x f
  | update x f g h => exact ha.updateRecord x f h
  | fill j o vs room new => exact ha.fill room new
  | mark => exact ha
  | advance => exact ha
  | unset => exact ha
  | retable t =>
    exact tableChange_keeps (fun _ x f hs => hs.freeRecord x f) (fun _ _ hs => hs) (fun _ _ hw hs => hs.within hw) ha t
  | forget => exact ha
  | create => exact ha
  | rejob => exact ha
  | assign => exact ha
  | finish => exact ha
  | leave => exact ha
  | stop => exact ha

theorem act_keeps_memorySound (a b : State) (h : Act a b) (ha : MemorySound a) : MemorySound b := by
  have same {ps : List Part} {c : State} (hw : Within ps a c) (hp : Part.pageMem ∉ ps := by decide) : MemorySound c := by
    unfold MemorySound
    rw [hw.pageMem hp]
    exact ha
  cases h with
  | aside h => exact same h
  | count h => exact same h
  | thin q => exact ha
  | rewrite q => exact ha
  | insert q e => exact ha
  | free x f => exact same (within_freeRecord a x f)
  | update => exact ha
  | fill j o vs => exact fillRecord_wf (same (within_evict a vs)) j o
  | mark => exact ha
  | advance => exact ha
  | unset => exact ha
  | retable t => exact same (within_tableChange a t)
  | forget => exact ha
  | create => exact ha
  | rejob => exact ha
  | assign => exact ha
  | finish => exact ha
  | leave => exact ha
  | stop => exact ha

theorem pagesSound_of_reset {s : State} (h : s.pst = Store.reset) : PagesSound s := by
  unfold PagesSound
  rw [h]
  exact ⟨by decide, .nil, by simp [Store.reset]⟩

theorem memorySound_of_reset {s : State} (h : s.pst = Store.reset) : MemorySound s := by
  unfold MemorySound
  rw [h]
  exact ⟨.nil, fun _ hc => by cases hc⟩

/-- Settles O55: every act keeps the laws of pages and records, and the canonical form of the page memory. -/
theorem stepKeepsPagesSound : Obligations.StepKeepsPagesSound := fun _ _ hp hm h =>
  ⟨step_keeps act_keeps_pagesSound (fun _ _ => pagesSound_of_reset rfl) (fun _ _ _ => pagesSound_of_reset rfl)
    (fun _ => hp) h,
   step_keeps act_keeps_memorySound (fun _ _ => memorySound_of_reset rfl) (fun _ _ _ => memorySound_of_reset rfl)
    (fun _ => hm) h⟩

end Sys2Proof.Machine

/-! PROOFS. O56, O53, O2: the laws of jobs and engines; straps and counters; every command answers. -/

namespace Sys2Proof.Machine

-- one theorem at a time: elaborated side by side, they would hold more threads than the check allows
set_option Elab.async false

/-! ### The job table and the engines (R57, R60, R61, R64) -/

/-- The laws of the job table, of the keys of its jobs and of the work of each engine. -/
def JobKeysSound (ks : List (StreamId × FrameCount × Bool × EngineId)) (work : EngineId → Option (StreamId × FrameCount)) :
    Prop :=
  ks.length ≤ 32 ∧ (ks.map fun k => (k.1, k.2.1)).Nodup ∧
  (∀ e x f, work e = some (x, f) ↔ (x, f, true, e) ∈ ks) ∧
  ∀ x f g d e, (x, f, true, d) ∈ ks → (x, g, true, e) ∈ ks → f = g

theorem mem_jobKeys {js : List Job} {x : StreamId} {f : FrameCount} {b : Bool} {e : EngineId} :
    (x, f, b, e) ∈ js.map Job.key ↔ ∃ j ∈ js, j.stream = x ∧ j.frame = f ∧ underWay j = b ∧ j.engine = e := by
  simp [Job.key]

theorem jobsSound_iff (s : State) :
    JobsSound s ↔ JobKeysSound (s.jsc.jobs.map Job.key) (fun e => (engineOf s e).job) := by
  unfold JobsSound JobKeysSound
  rw [List.length_map, List.map_map]
  refine and_congr_right fun _ => and_congr_right fun _ => and_congr ?_ ?_
  · simp only [mem_jobKeys]
  · constructor
    · intro h x f g d e hj hk
      obtain ⟨i, hi, rfl, rfl, hiu, -⟩ := mem_jobKeys.1 hj
      obtain ⟨l, hl, hs, rfl, hlu, -⟩ := mem_jobKeys.1 hk
      exact h i hi l hl hiu hlu hs.symm
    · intro h j hj k hk hju hku hs
      exact h j.stream j.frame k.frame j.engine k.engine (mem_jobKeys.2 ⟨j, hj, rfl, rfl, hju, rfl⟩)
        (mem_jobKeys.2 ⟨k, hk, hs.symm, rfl, hku, rfl⟩)

section Keys

variable {ks : List (StreamId × FrameCount × Bool × EngineId)} {work : EngineId → Option (StreamId × FrameCount)}

/-- One job at most is of a stream-frame. -/
theorem JobKeysSound.unique (h : JobKeysSound ks work) {x : StreamId} {f : FrameCount} {p q : Bool × EngineId}
    (hp : (x, f, p) ∈ ks) (hq : (x, f, q) ∈ ks) : p = q := by
  obtain ⟨-, hn, -, -⟩ := h
  have := List.inj_on_of_nodup_map hn hp hq rfl
  exact congrArg (fun k => k.2.2) this

theorem JobKeysSound.sublist (h : JobKeysSound ks work) {ls : List (StreamId × FrameCount × Bool × EngineId)}
    (hsub : ls.Sublist ks) (hkept : ∀ x f e, (x, f, true, e) ∈ ks → (x, f, true, e) ∈ ls) : JobKeysSound ls work := by
  obtain ⟨hlen, hn, hwork, hone⟩ := h
  refine ⟨hsub.length_le.trans hlen, hn.sublist (hsub.map _), fun e x f => ?_, fun x f g d e hf hg =>
    hone x f g d e (hsub.subset hf) (hsub.subset hg)⟩
  rw [hwork]
  exact ⟨hkept x f e, fun h => hsub.subset h⟩

theorem JobKeysSound.create (h : JobKeysSound ks work) {x : StreamId} {f : FrameCount} (e : EngineId)
    (new : ∀ k ∈ ks, ¬(k.1 = x ∧ k.2.1 = f)) (room : ks.length < 32) : JobKeysSound (ks ++ [(x, f, false, e)]) work := by
  obtain ⟨hlen, hn, hwork, hone⟩ := h
  refine ⟨by simpa using room, ?_, fun d y g => ?_, fun y g k d c hg hk => ?_⟩
  · rw [List.map_append, List.nodup_append]
    refine ⟨hn, List.nodup_singleton _, fun a ha b hb hab => ?_⟩
    obtain ⟨k, hk, rfl⟩ := List.mem_map.1 ha
    rw [List.map_singleton, List.mem_singleton, ← hab, Prod.mk.injEq] at hb
    exact new k hk hb
  · rw [hwork]
    simp
  · simp only [List.mem_append, List.mem_singleton, Prod.mk.injEq, reduceCtorEq, false_and, and_false, or_false] at hg hk
    exact hone y g k d c hg hk

/-- The keys once the job of a stream-frame has been given an engine. -/
def keysGiven (x : StreamId) (f : FrameCount) (e : EngineId) (k : StreamId × FrameCount × Bool × EngineId) :
    StreamId × FrameCount × Bool × EngineId :=
  if k.1 = x ∧ k.2.1 = f then (k.1, k.2.1, true, e) else k

theorem mem_keysGiven {x y : StreamId} {f g : FrameCount} {d e : EngineId} (hx : ∃ p, (x, f, p) ∈ ks) :
    (y, g, true, d) ∈ ks.map (keysGiven x f e) ↔ (y = x ∧ g = f ∧ d = e) ∨ (¬(y = x ∧ g = f) ∧ (y, g, true, d) ∈ ks) := by
  simp only [List.mem_map, keysGiven]
  constructor
  · rintro ⟨k, hk, hkey⟩
    split at hkey
    · rename_i hxf
      simp only [Prod.mk.injEq, true_and] at hkey
      obtain ⟨rfl, rfl, rfl⟩ := hkey
      exact .inl ⟨hxf.1, hxf.2, rfl⟩
    · rename_i hxf
      subst hkey
      exact .inr ⟨hxf, hk⟩
  · rintro (⟨rfl, rfl, rfl⟩ | ⟨hne, hk⟩)
    · obtain ⟨p, hp⟩ := hx
      exact ⟨_, hp, by simp⟩
    · exact ⟨_, hk, by rw [if_neg hne]⟩

theorem JobKeysSound.assign (h : JobKeysSound ks work) {x : StreamId} {f : FrameCount} {e : EngineId} (idle : work e = none)
    (ready : ∃ p, (x, f, p) ∈ ks) (free : ∀ g d, (x, g, true, d) ∉ ks) :
    JobKeysSound (ks.map (keysGiven x f e)) (fun d => if d = e then some (x, f) else work d) := by
  obtain ⟨hlen, hn, hwork, hone⟩ := h
  refine ⟨by simpa using hlen, ?_, fun d y g => ?_, fun y g k d c hg hk => ?_⟩
  · rw [List.map_map]
    have : (fun k => (k.1, k.2.1)) ∘ keysGiven x f e = fun k => (k.1, k.2.1) := by
      funext k
      simp only [Function.comp, keysGiven]
      split <;> rfl
    rwa [this]
  · rw [mem_keysGiven ready]
    by_cases hd : d = e
    · subst hd
      have hnot : ¬(y, g, true, d) ∈ ks := fun hk => by
        have := (hwork d y g).2 hk
        rw [idle] at this
        cases this
      simp only [if_pos, Option.some.injEq, Prod.mk.injEq, and_true, hnot, and_false, or_false]
      exact ⟨fun ⟨hx, hf⟩ => ⟨hx.symm, hf.symm⟩, fun ⟨hx, hf⟩ => ⟨hx.symm, hf.symm⟩⟩
    · simp only [if_neg hd]
      rw [hwork]
      refine ⟨fun hk => .inr ⟨?_, hk⟩, ?_⟩
      · rintro ⟨rfl, rfl⟩
        exact free _ _ hk
      · rintro (⟨-, -, h⟩ | ⟨-, hk⟩)
        · exact absurd h hd
        · exact hk
  · rw [mem_keysGiven ready] at hg hk
    rcases hg with ⟨rfl, rfl, -⟩ | ⟨-, hg⟩
    · rcases hk with ⟨-, rfl, -⟩ | ⟨-, hk⟩
      · rfl
      · exact absurd hk (free _ _)
    · rcases hk with ⟨rfl, -, -⟩ | ⟨-, hk⟩
      · exact absurd hg (free _ _)
      · exact hone _ _ _ _ _ hg hk

theorem JobKeysSound.leave (h : JobKeysSound ks work) {x : StreamId} {f : FrameCount} {e : EngineId}
    (runs : work e = some (x, f)) {p : StreamId × FrameCount × Bool × EngineId → Bool}
    (hp : ∀ k, p k = true ↔ ¬(k.1 = x ∧ k.2.1 = f)) :
    JobKeysSound (ks.filter p) (fun d => if d = e then none else work d) := by
  have hun := @JobKeysSound.unique _ _ h
  obtain ⟨hlen, hn, hwork, hone⟩ := h
  refine ⟨List.filter_sublist.length_le.trans hlen, hn.sublist (List.filter_sublist.map _), fun d y g => ?_,
    fun y g k d c hg hk => hone y g k d c (List.mem_filter.1 hg).1 (List.mem_filter.1 hk).1⟩
  rw [List.mem_filter, hp]
  by_cases hd : d = e
  · subst hd
    simp only [if_pos, reduceCtorEq, false_iff]
    rintro ⟨hk, hne⟩
    have := (hwork d y g).2 hk
    rw [runs, Option.some.injEq, Prod.mk.injEq] at this
    exact hne ⟨this.1.symm, this.2.symm⟩
  · simp only [if_neg hd]
    rw [hwork]
    refine ⟨fun hk => ⟨hk, ?_⟩, fun hk => hk.1⟩
    rintro ⟨rfl, rfl⟩
    exact hd (congrArg Prod.snd (hun hk ((hwork e _ _).1 runs)))

end Keys

theorem JobsSound.congr {a b : State} (h : JobsSound a) (hj : b.jsc.jobs = a.jsc.jobs)
    (he : ∀ e, (engineOf b e).job = (engineOf a e).job) : JobsSound b := by
  rw [jobsSound_iff] at h ⊢
  simp only [hj, he]
  exact h

theorem JobsSound.within {ps : List Part} {a b : State} (h : JobsSound a) (hw : Within ps a b)
    (hp : Part.scheduler ∉ ps := by decide) : JobsSound b :=
  h.congr (hw.jobs hp) (fun e => by rw [engineOf, hw.engines hp]; rfl)

theorem jobsSound_of_none {s : State} (hj : s.jsc.jobs = []) (he : ∀ e, (engineOf s e).job = none) : JobsSound s := by
  rw [jobsSound_iff]
  simp only [hj, he]
  exact ⟨Nat.zero_le _, .nil, fun _ _ _ => by simp, fun _ _ _ _ _ h => by cases h⟩

theorem stopEngines_idle (s : State) (e : EngineId) : engineOf (stopEngines s) e = .reset := by
  simp [engineOf, stopEngines, Vector.get_eq_getElem]

/-- The keys after an update of one job that changes what the laws speak of. -/
theorem map_key_updateJob (s : State) (x : StreamId) (f : FrameCount) {g : Job → Job} {e : EngineId}
    (hg : ∀ j, (g j).key = (j.stream, j.frame, true, e)) :
    (updateJob s x f g).jsc.jobs.map Job.key = (s.jsc.jobs.map Job.key).map (keysGiven x f e) := by
  simp only [updateJob, setJobs_jsc_jobs, List.map_map]
  refine List.map_congr_left fun j _ => ?_
  have hb : (j.stream == x && j.frame == f) = true ↔ j.stream = x ∧ j.frame = f := by simp
  show Job.key (if _ then _ else _) = if j.stream = x ∧ j.frame = f then (j.stream, j.frame, true, e) else j.key
  by_cases h : j.stream = x ∧ j.frame = f
  · rw [if_pos (hb.2 h), if_pos h, hg]
  · rw [if_neg (mt hb.1 h), if_neg h]

theorem act_keeps_jobsSound (a b : State) (h : Act a b) (ha : JobsSound a) : JobsSound b := by
  cases h with
  | aside _ jobs engines => exact ha.congr jobs engines
  | count h => exact ha.within h
  | thin q => exact ha
  | rewrite q => exact ha
  | insert q e => exact ha
  | free x f => exact ha.within (within_freeRecord a x f)
  | update x f g h => exact ha
  | fill j o vs => exact ha.within ((within_evict a vs).mono.trans (within_fillRecord _ j o).mono :
      Within [.store, .queue, .counters, .pageMem] _ _)
  | mark => exact ha
  | advance => exact ha
  | unset => exact ha
  | retable t => exact ha.within (within_tableChange a t)
  | forget => exact ha
  | create j new room idle =>
    rw [jobsSound_iff] at ha ⊢
    have hk : j.key = (j.stream, j.frame, false, j.engine) := by rw [Job.key, idle]
    rw [setJobs_jsc_jobs, List.map_append, List.map_singleton, hk]
    refine ha.create j.engine (fun k hk hxf => ?_) (by simpa using room)
    obtain ⟨i, hi, rfl⟩ := List.mem_map.1 hk
    exact List.find?_eq_none.1 new i hi (by simpa [Job.key] using hxf)
  | rejob js h kept =>
    rw [jobsSound_iff] at ha ⊢
    refine ha.sublist h fun x f e hk => ?_
    obtain ⟨j, hj, rfl, rfl, hu, rfl⟩ := mem_jobKeys.1 hk
    have := kept j hj hu
    rwa [Job.key, hu] at this
  | assign e j g x idle ready free runs busy =>
    rw [jobsSound_iff] at ha ⊢
    have hwork : (fun d => (engineOf (setEngine (updateJob a j.stream j.frame g) e x) d).job) =
        fun d => if d = e then some (j.stream, j.frame) else (engineOf a d).job := by
      funext d
      rw [engineOf_setEngine]
      split
      · exact busy
      · rfl
    rw [hwork, setEngine_jsc_jobs, map_key_updateJob a _ _ runs]
    refine ha.assign idle ⟨_, List.mem_map_of_mem ready⟩ fun h d hk => ?_
    obtain ⟨k, hk, hs, -, hu, -⟩ := mem_jobKeys.1 hk
    rw [free k hk hs] at hu
    cases hu
  | finish e j runs =>
    rw [jobsSound_iff] at ha ⊢
    have hrun : (j.stream, j.frame, true, e) ∈ a.jsc.jobs.map Job.key := (ha.2.2.1 e _ _).1 runs
    have hsame : (updateJob a j.stream j.frame (fun j => { j with state := .finishing })).jsc.jobs.map Job.key =
        a.jsc.jobs.map Job.key := by
      simp only [updateJob, setJobs_jsc_jobs, List.map_map]
      refine List.map_congr_left fun k hk => ?_
      simp only [Function.comp]
      split
      · rename_i hxf
        simp only [Bool.and_eq_true, beq_iff_eq] at hxf
        have hkk : k.key ∈ a.jsc.jobs.map Job.key := List.mem_map_of_mem hk
        rw [Job.key, hxf.1, hxf.2] at hkk
        have hu : underWay k = true := congrArg Prod.fst (ha.unique hkk hrun)
        rw [Job.key, Job.key, hu]
        rfl
      · rfl
    rw [hsame]
    exact ha
  | leave e j runs =>
    rw [jobsSound_iff] at ha ⊢
    have hwork : (fun d => (engineOf (leaveTable a e j) d).job) = fun d => if d = e then none else (engineOf a d).job := by
      funext d
      rw [leaveTable, engineOf_setEngine]
      split <;> rfl
    have hkeys : (leaveTable a e j).jsc.jobs.map Job.key =
        (a.jsc.jobs.map Job.key).filter (fun k => !(k.1 == j.stream && k.2.1 == j.frame)) := by
      rw [List.filter_map]
      rfl
    rw [hwork, hkeys]
    exact ha.leave runs fun k => by simp [imp_iff_not_or]
  | stop => exact jobsSound_of_none rfl fun e => by rw [stopEngines_idle]; rfl

theorem reset_idle (now : Instant) (straps : Straps) (pending : List Instr) (e : EngineId) :
    (engineOf (State.afterPinReset now straps pending) e).job = none := by
  simp [engineOf, State.afterPinReset, Scheduler.reset, Engine.reset, Vector.get_eq_getElem]

/-- Settles O56: every act keeps the laws of the job table and the engines. -/
theorem stepKeepsJobsSound : Obligations.StepKeepsJobsSound := fun _ _ hs h =>
  step_keeps act_keeps_jobsSound (fun s now => jobsSound_of_none rfl (reset_idle now s.mod.straps s.pending))
    (fun now straps pending => jobsSound_of_none rfl (reset_idle now straps pending)) (fun _ => hs) h

/-! ### Straps, counters and the queue of commands -/

/-- No act touches the parts that no command but pin reset touches. -/
theorem act_frame {a b : State} (h : Act a b) :
    Within [.time, .lanes, .tracker, .mapUnit, .slots, .scheduler, .arrivals, .store, .pageMem, .queue, .line, .table,
      .claims, .peers, .cursors, .releaseList, .counters, .mode, .statusTimer] a b := by
  cases h with
  | aside h => exact h.mono
  | count h => exact h.mono
  | thin q => exact (within_setQueue _ q).mono
  | rewrite q => exact (within_setQueue _ q).mono
  | insert q e => exact ((within_setQueue _ q).trans (within_insertNew _ e)).mono
  | free x f => exact (within_freeRecord _ x f).mono
  | update x f g => exact (within_updateRecord _ x f g).mono
  | fill j o vs => exact (within_evict a vs).mono.trans (within_fillRecord _ j o).mono
  | mark g =>
    intro p hp; cases p <;> first | exact absurd (by decide) hp | simp [sameIn]
  | advance x f g => exact (within_updateCursor a x g).mono.trans (within_withdraw _ _).mono
  | unset x => exact (within_unsetCursor a x).mono
  | retable t => exact (within_tableChange a t).mono
  | forget => exact (within_forgetUsers a).mono
  | create j => exact (within_setJobs a _).mono
  | rejob js => exact (within_setJobs a js).mono
  | assign e j g x => exact (within_updateJob a _ _ g).mono.trans (within_setEngine _ e x).mono
  | finish e j => exact (within_updateJob a _ _ _).mono
  | leave e j => exact (within_leaveTable a e j).mono
  | stop => exact (within_stopEngines a).mono

theorem act_countersRise {a b : State} (h : Act a b) : countersRise a.mod.counters b.mod.counters := by
  have same {ps : List Part} (hw : Within ps a b) (hp : Part.counters ∉ ps := by decide) :
      countersRise a.mod.counters b.mod.counters := by
    rw [hw.counters hp]
    exact countersRise_refl _
  cases h with
  | aside h => exact same h
  | count _ rise => exact rise
  | free x f => exact same (within_freeRecord _ x f)
  | fill j o vs =>
    have step (s : State) (r : ParcelRecord) : countersRise s.mod.counters
        (if liveRecord r then countStoreDrop (freeRecord s r.stream r.frame)
          else freeRecord s r.stream r.frame).mod.counters := by
      have hf := (within_freeRecord s r.stream r.frame).counters
      split
      · rw [countStoreDrop_mod_counters, hf]
        simp [countersRise, le_bump]
      · rw [hf]
        exact countersRise_refl _
    have fold (vs : List ParcelRecord) (s : State) : countersRise s.mod.counters (evict s vs).mod.counters := by
      induction vs generalizing s with
      | nil => exact countersRise_refl _
      | cons r vs ih => exact countersRise_trans (step s r) (ih _)
    rw [(within_fillRecord (evict a vs) j o).counters]
    exact fold vs a
  | retable t => exact same (within_tableChange a t)
  | thin | rewrite | insert | update | mark | advance | unset | forget | create | rejob | assign | finish | leave | stop =>
    exact countersRise_refl _

theorem Acts.countersRise {a b : State} (h : Acts a b) : Machine.countersRise a.mod.counters b.mod.counters :=
  h.keeps (P := fun s => Machine.countersRise a.mod.counters s.mod.counters)
    (fun _ _ hb hs => countersRise_trans hs (act_countersRise hb)) (countersRise_refl _)

theorem Acts.straps {a b : State} (h : Acts a b) : b.mod.straps = a.mod.straps :=
  h.keeps (P := fun s => s.mod.straps = a.mod.straps) (fun _ _ hb hs => (act_frame hb).straps.trans hs) rfl

theorem Acts.pending {a b : State} (h : Acts a b) : b.pending = a.pending :=
  h.keeps (P := fun s => s.pending = a.pending) (fun _ _ hb hs => (act_frame hb).pending.trans hs) rfl

theorem Acts.held {a b : State} (h : Acts a b) : b.held = a.held :=
  h.keeps (P := fun s => s.held = a.held) (fun _ _ hb hs => (act_frame hb).held.trans hs) rfl

/-- Settles O53: straps and counters along the acts of a command. -/
theorem strapsHoldAndCountersRise : Obligations.StrapsHoldAndCountersRise := fun _ _ _ hc h =>
  ⟨(acts_of_exec hc h).straps, (acts_of_exec hc h).countersRise⟩

/-- Settles O2: pin reset carries the queue of commands over, and no act of any other command touches it. -/
theorem commandsAnswerAndLeaveQueue : Obligations.CommandsAnswerAndLeaveQueue := by
  intro c s
  by_cases hc : isPinReset c = true
  · cases c with
    | pinResetAssert t => exact ⟨_, rfl, rfl⟩
    | pinResetRelease t straps => exact ⟨_, rfl, rfl⟩
    | _ => cases hc
  · obtain ⟨u, hu, ha⟩ := exec_acts c s (by simpa using hc)
    exact ⟨u, hu, ha.pending⟩

end Sys2Proof.Machine

/-! PROOFS. A table change, cursor by cursor; O58: the laws of cursors and queued answers. -/

namespace Sys2Proof.Machine

-- one theorem at a time: elaborated side by side, they would hold more threads than the check allows
set_option Elab.async false

/-! ### A table change, cursor by cursor (R139, R155) -/

/-- The cursor entry made for a stream that becomes subscribed (R155). -/
def freshCursor (s : State) (x : StreamId) : Cursor :=
  { stream := x, cursor := none, carryIn := none, absent := !inCurrentMap s x, deadline := .none }

theorem find?_insertBy_ne {α : Type} {lt : α → α → Bool} {p : α → Bool} {a : α} (h : p a = false) (l : List α) :
    (insertBy lt a l).find? p = l.find? p := by
  induction l with
  | nil => simp [insertBy, h]
  | cons b bs ih =>
    unfold insertBy
    split
    · rw [List.find?_cons_of_neg (by simp [h])]
    · rw [List.find?_cons, List.find?_cons, ih]

theorem find?_insertBy_self {α : Type} {lt : α → α → Bool} {p : α → Bool} {a : α} (h : p a = true) {l : List α}
    (hl : l.find? p = none) : (insertBy lt a l).find? p = some a := by
  induction l with
  | nil => simp [insertBy, h]
  | cons b bs ih =>
    have hb : p b = false := by simpa using List.find?_eq_none.1 hl b (List.mem_cons_self ..)
    rw [List.find?_cons_of_neg (by simp [hb])] at hl
    unfold insertBy
    split
    · rw [List.find?_cons_of_pos h]
    · rw [List.find?_cons_of_neg (by simp [hb]), ih hl]

theorem cursorOf_addCursor {s : State} {x : StreamId} (h : cursorOf s x = none) (y : StreamId) :
    cursorOf (addCursor s x) y = if y = x then some (freshCursor s x) else cursorOf s y := by
  show (insertBy _ (freshCursor s x) s.dlv.cursors).find? _ = _
  split
  · rename_i hyx
    subst hyx
    exact find?_insertBy_self (by simp [freshCursor]) h
  · rename_i hyx
    exact find?_insertBy_ne (by simpa [freshCursor] using Ne.symm hyx) _

theorem freshCursor_congr {s u : State} (h : u.maps = s.maps) : freshCursor u = freshCursor s := by
  funext x
  rw [freshCursor, freshCursor, inCurrentMap, inCurrentMap, h]

theorem cursorOf_foldl_addCursor {xs : List StreamId} {s : State} (hn : xs.Nodup) (hx : ∀ x ∈ xs, cursorOf s x = none)
    (y : StreamId) : cursorOf (xs.foldl addCursor s) y = if y ∈ xs then some (freshCursor s y) else cursorOf s y := by
  induction xs generalizing s with
  | nil => rfl
  | cons x xs ih =>
    obtain ⟨hxs, hn⟩ := List.nodup_cons.1 hn
    have hadd := cursorOf_addCursor (hx x (List.mem_cons_self ..))
    have hrest : ∀ z ∈ xs, cursorOf (addCursor s x) z = none := by
      intro z hz
      have hzx : z ≠ x := fun h => hxs (h ▸ hz)
      rw [hadd, if_neg hzx]
      exact hx z (List.mem_cons_of_mem _ hz)
    rw [List.foldl_cons, ih hn hrest, hadd, freshCursor_congr (within_addCursor s x).maps]
    by_cases hy : y = x
    · subst hy
      simp [hxs]
    · simp [hy]

theorem cursorOf_removeCursor (s : State) (x y : StreamId) :
    cursorOf (removeCursor s x) y = if y = x then none else cursorOf s y := by
  have hc : (removeCursor s x).dlv.cursors = s.dlv.cursors.filter (fun c => c.stream != x) := by
    unfold removeCursor
    rw [(within_freeRecords _ _).cursors, (within_withdrawGaps _ _).cursors]
  rw [cursorOf, hc, List.find?_filter]
  split
  · rename_i hyx
    subst hyx
    refine List.find?_eq_none.2 fun c _ => ?_
    simp
  · rename_i hyx
    refine congrArg (List.find? · _) (funext fun c => ?_)
    by_cases hc : c.stream = y
    · simp [hc, hyx]
    · simp [hc]

theorem cursorOf_foldl_removeCursor (xs : List StreamId) (s : State) (y : StreamId) :
    cursorOf (xs.foldl removeCursor s) y = if y ∈ xs then none else cursorOf s y := by
  induction xs generalizing s with
  | nil => rfl
  | cons x xs ih =>
    rw [List.foldl_cons, ih, cursorOf_removeCursor]
    by_cases hy : y ∈ xs
    · simp [hy]
    · by_cases hyx : y = x <;> simp [hy, hyx]

/-- The streams that become subscribed by a table, and those that cease to be (R139). -/
def freshStreams (s : State) (t : List Subscription) : List StreamId :=
  (List.finRange 64).filter (fun x => names t x && (cursorOf s x).isNone)

def goneStreams (s : State) (t : List Subscription) : List StreamId := (cursorStreams s).filter (fun x => !names t x)

/-- The state with its table replaced and its classes reviewed. -/
def withTable (s : State) (t : List Subscription) : State := classReview { s with sub := { s.sub with table := t } }

theorem nodup_freshStreams (s : State) (t : List Subscription) : (freshStreams s t).Nodup := (List.nodup_finRange 64).filter _

theorem tableChange_eq (s : State) (t : List Subscription) :
    tableChange s t =
      claimReview ((goneStreams s t).foldl removeCursor ((freshStreams s t).foldl addCursor (withTable s t))) := rfl

theorem cursorOf_withTable (s : State) (t : List Subscription) (x : StreamId) : cursorOf (withTable s t) x = cursorOf s x := rfl

theorem names_withTable (s : State) (t : List Subscription) (x : StreamId) : names (withTable s t).sub.table x = names t x :=
  names_classReview _ x

theorem mem_freshStreams {s : State} {t : List Subscription} {x : StreamId} :
    x ∈ freshStreams s t ↔ names t x = true ∧ cursorOf s x = none := by
  simp [freshStreams]

theorem cursorOf_isSome_iff {s : State} {x : StreamId} : (cursorOf s x).isSome = true ↔ x ∈ cursorStreams s := by
  simp [cursorOf, cursorStreams, List.find?_isSome]

theorem mem_goneStreams {s : State} {t : List Subscription} {x : StreamId} :
    x ∈ goneStreams s t ↔ (cursorOf s x).isSome = true ∧ names t x = false := by
  rw [goneStreams, List.mem_filter, cursorOf_isSome_iff, Bool.not_eq_true']

/-- After a table change the streams named have their cursor entries, made now where there was none, and no other has. -/
theorem cursorOf_tableChange (s : State) (t : List Subscription) (x : StreamId) :
    cursorOf (tableChange s t) x = if names t x then some ((cursorOf s x).getD (freshCursor s x)) else none := by
  have hfresh : ∀ y ∈ freshStreams s t, cursorOf (withTable s t) y = none := fun y hy => (mem_freshStreams.1 hy).2
  rw [tableChange_eq, cursorOf_congr (within_claimReview _).cursors, cursorOf_foldl_removeCursor,
    cursorOf_foldl_addCursor (nodup_freshStreams s t) hfresh, cursorOf_withTable,
    freshCursor_congr (show (withTable s t).maps = s.maps from rfl)]
  cases hc : cursorOf s x <;> cases hn : names t x <;> simp [mem_goneStreams, mem_freshStreams, hc, hn]

/-- Freeing records takes entries out of the queue and puts none in. -/
theorem freeRecords_queue_sublist (s : State) (p : ParcelRecord → Bool) : (freeRecords s p).lnk.queue.Sublist s.lnk.queue :=
  foldl_sublist (·.lnk.queue) (fun s (r : ParcelRecord) => freeRecord_queue_sublist s r.stream r.frame) _ s

/-- What the entries of the queue are after a cursor has been removed. -/
theorem mem_removeCursor_queue {s : State} {x : StreamId} {e : Entry} (h : e ∈ (removeCursor s x).lnk.queue) :
    e ∈ s.lnk.queue ∧ ¬(e.kind = .gap ∧ e.stream = some x) := by
  have := (freeRecords_queue_sublist _ _).subset h
  rw [withdrawGaps, withdraw, setQueue_lnk_queue, List.mem_filter] at this
  exact ⟨this.1, by simpa [imp_iff_not_or, not_and_or] using this.2⟩

/-- What the records of the store are after a cursor has been removed. -/
theorem mem_removeCursor_records {s : State} {x : StreamId} {r : ParcelRecord} (h : r ∈ (removeCursor s x).pst.records) :
    r ∈ s.pst.records ∧ r.stream ≠ x := by
  obtain ⟨hr, hx⟩ := freeRecords_none_left h
  exact ⟨hr, by simpa using hx⟩

theorem mem_foldl_removeCursor_queue {xs : List StreamId} {s : State} {e : Entry}
    (h : e ∈ (xs.foldl removeCursor s).lnk.queue) :
    e ∈ s.lnk.queue ∧ ∀ x ∈ xs, ¬(e.kind = .gap ∧ e.stream = some x) := by
  induction xs generalizing s with
  | nil => exact ⟨h, fun _ hx => by cases hx⟩
  | cons x xs ih =>
    obtain ⟨h1, hxs⟩ := ih h
    obtain ⟨h0, hx⟩ := mem_removeCursor_queue h1
    exact ⟨h0, List.forall_mem_cons.2 ⟨hx, hxs⟩⟩

theorem mem_foldl_removeCursor_records {xs : List StreamId} {s : State} {r : ParcelRecord}
    (h : r ∈ (xs.foldl removeCursor s).pst.records) : r ∈ s.pst.records ∧ r.stream ∉ xs := by
  induction xs generalizing s with
  | nil => exact ⟨h, fun hx => by cases hx⟩
  | cons x xs ih =>
    obtain ⟨h1, hxs⟩ := ih h
    obtain ⟨h0, hx⟩ := mem_removeCursor_records h1
    exact ⟨h0, by simp [hx, hxs]⟩

theorem within_foldl_addCursor (xs : List StreamId) (s : State) : Within [.cursors] s (xs.foldl addCursor s) :=
  .foldl within_addCursor xs s

/-- The GAPs of a stream that ceases to be subscribed leave the queue (R155). -/
theorem mem_tableChange_queue {s : State} {t : List Subscription} {e : Entry} (h : e ∈ (tableChange s t).lnk.queue) :
    e ∈ s.lnk.queue ∧ ∀ x, e.kind = .gap → e.stream = some x → (cursorOf s x).isSome = true → names t x = true := by
  rw [tableChange_eq, (within_claimReview _).queue] at h
  obtain ⟨h0, hgone⟩ := mem_foldl_removeCursor_queue h
  rw [(within_foldl_addCursor _ _).queue] at h0
  refine ⟨h0, fun x hk hs hc => ?_⟩
  by_contra hn
  exact hgone x (mem_goneStreams.2 ⟨hc, by simpa using hn⟩) ⟨hk, hs⟩

/-- The records of a stream that ceases to be subscribed are freed (R109). -/
theorem mem_tableChange_records {s : State} {t : List Subscription} {r : ParcelRecord}
    (h : r ∈ (tableChange s t).pst.records) :
    r ∈ s.pst.records ∧ ((cursorOf s r.stream).isSome = true → names t r.stream = true) := by
  rw [tableChange_eq, (within_claimReview _).records] at h
  obtain ⟨h0, hgone⟩ := mem_foldl_removeCursor_records h
  rw [(within_foldl_addCursor _ _).records] at h0
  refine ⟨h0, fun hc => ?_⟩
  by_contra hn
  exact hgone (mem_goneStreams.2 ⟨hc, by simpa using hn⟩)

theorem table_tableChange (s : State) (t : List Subscription) : (tableChange s t).sub.table = (withTable s t).sub.table := by
  have hr : Within [.store, .queue, .cursors] ((freshStreams s t).foldl addCursor (withTable s t)) _ :=
    .foldl within_removeCursor (goneStreams s t) _
  rw [tableChange_eq, (within_claimReview _).table, hr.table, (within_foldl_addCursor _ _).table]

theorem names_tableChange (s : State) (t : List Subscription) (x : StreamId) :
    names (tableChange s t).sub.table x = names t x := by
  rw [table_tableChange, names_withTable]

/-! ### The cursor table (R153, R155, R109) -/

theorem cursorStreams_addCursor {s : State} {x : StreamId} (h : (cursorStreams s).Pairwise (· < ·)) (hx : cursorOf s x = none) :
    (cursorStreams (addCursor s x)).Pairwise (· < ·) := by
  have hne : ∀ c ∈ s.dlv.cursors, c.stream ≠ x := fun c hc => by simpa using List.find?_eq_none.1 hx c hc
  have insert (l : List Cursor) (hl : (l.map (·.stream)).Pairwise (· < ·)) (hne : ∀ c ∈ l, c.stream ≠ x) :
      ((insertBy (fun a b : Cursor => decide (a.stream < b.stream)) (freshCursor s x) l).map (·.stream)).Pairwise (· < ·) := by
    induction l with
    | nil => exact List.pairwise_singleton _ _
    | cons c cs ih =>
      obtain ⟨hc, hcs⟩ := List.pairwise_cons.1 hl
      unfold insertBy
      split
      · rename_i hlt
        have hlt : x < c.stream := of_decide_eq_true hlt
        refine .cons (fun y hy => ?_) hl
        rcases List.mem_cons.1 hy with rfl | hy
        · exact hlt
        · exact lt_trans hlt (hc y hy)
      · rename_i hlt
        have hlt : c.stream < x :=
          lt_of_le_of_ne (not_lt.1 fun h => hlt (decide_eq_true h)) (hne c (List.mem_cons_self ..))
        refine .cons (fun y hy => ?_) (ih hcs fun d hd => hne d (List.mem_cons_of_mem _ hd))
        obtain ⟨d, hd, rfl⟩ := List.mem_map.1 hy
        rcases mem_insertBy.1 hd with rfl | hd
        · exact hlt
        · exact hc _ (List.mem_map_of_mem hd)
  exact insert _ h hne

theorem cursorStreams_foldl_addCursor {xs : List StreamId} {s : State} (h : (cursorStreams s).Pairwise (· < ·)) (hn : xs.Nodup)
    (hx : ∀ x ∈ xs, cursorOf s x = none) : (cursorStreams (xs.foldl addCursor s)).Pairwise (· < ·) := by
  induction xs generalizing s with
  | nil => exact h
  | cons x xs ih =>
    obtain ⟨hxs, hn⟩ := List.nodup_cons.1 hn
    refine ih (cursorStreams_addCursor h (hx x (List.mem_cons_self ..))) hn fun y hy => ?_
    have hyx : y ≠ x := fun h => hxs (h ▸ hy)
    rw [cursorOf_addCursor (hx x (List.mem_cons_self ..)), if_neg hyx]
    exact hx y (List.mem_cons_of_mem _ hy)

theorem cursors_removeCursor_sublist (s : State) (x : StreamId) :
    (removeCursor s x).dlv.cursors.Sublist s.dlv.cursors := by
  unfold removeCursor
  rw [(within_freeRecords _ _).cursors, (within_withdrawGaps _ _).cursors]
  exact List.filter_sublist

theorem cursorStreams_tableChange {s : State} (h : (cursorStreams s).Pairwise (· < ·)) (t : List Subscription) :
    (cursorStreams (tableChange s t)).Pairwise (· < ·) := by
  have hadd := cursorStreams_foldl_addCursor (s := withTable s t) (xs := freshStreams s t) h
    (nodup_freshStreams s t) (fun y hy => (mem_freshStreams.1 hy).2)
  have hsub := foldl_sublist (·.dlv.cursors) cursors_removeCursor_sublist (goneStreams s t)
    ((freshStreams s t).foldl addCursor (withTable s t))
  rw [tableChange_eq, cursorStreams, (within_claimReview _).cursors]
  exact hadd.sublist (hsub.map _)

/-- The cursor table is sound where its streams are as they were, and the records are of named streams still. -/
theorem CursorsSound.of {a b : State} (h : CursorsSound a) (hs : cursorStreams b = cursorStreams a)
    (ht : ∀ x, names b.sub.table x = names a.sub.table x)
    (hr : ∀ r ∈ b.pst.records, (∃ q ∈ a.pst.records, q.stream = r.stream) ∨ (cursorOf a r.stream).isSome = true) :
    CursorsSound b := by
  obtain ⟨hasc, hnames, hrec⟩ := h
  have hc (x : StreamId) : (cursorOf b x).isSome = (cursorOf a x).isSome := by
    rw [Bool.eq_iff_iff, cursorOf_isSome_iff, cursorOf_isSome_iff, hs]
  refine ⟨?_, fun x => by rw [hc, ht, hnames], fun r hm => ?_⟩
  · show (cursorStreams b).Pairwise (· < ·)
    rw [hs]
    exact hasc
  · rw [ht]
    rcases hr r hm with ⟨q, hq, hqs⟩ | hsub
    · rw [← hqs]
      exact hrec q hq
    · rw [← hnames]
      exact hsub

theorem CursorsSound.sublist {a b : State} (h : CursorsSound a) (hs : cursorStreams b = cursorStreams a)
    (ht : ∀ x, names b.sub.table x = names a.sub.table x) (hr : b.pst.records.Sublist a.pst.records) : CursorsSound b :=
  h.of hs ht fun r hm => .inl ⟨r, hr.subset hm, rfl⟩

theorem CursorsSound.within {ps : List Part} {a b : State} (h : CursorsSound a) (hw : Within ps a b)
    (ht : ∀ x, names b.sub.table x = names a.sub.table x) (hc : Part.cursors ∉ ps := by decide)
    (hr : Part.store ∉ ps := by decide) : CursorsSound b :=
  h.sublist (by rw [cursorStreams, hw.cursors hc]; rfl) ht (hw.records hr ▸ .refl _)

theorem CursorsSound.tableChange {s : State} (h : CursorsSound s) (t : List Subscription) :
    CursorsSound (Machine.tableChange s t) := by
  obtain ⟨hasc, hnames, hrec⟩ := h
  refine ⟨cursorStreams_tableChange hasc t, fun x => ?_, fun r hr => ?_⟩
  · rw [cursorOf_tableChange, names_tableChange]
    cases names t x <;> rfl
  · obtain ⟨hr, hnamed⟩ := mem_tableChange_records hr
    rw [names_tableChange]
    exact hnamed (by rw [hnames]; exact hrec r hr)

theorem cursorStreams_mapCursors (s : State) {g : Cursor → Cursor} (h : ∀ c, (g c).stream = c.stream) :
    cursorStreams { s with dlv := { s.dlv with cursors := s.dlv.cursors.map g } } = cursorStreams s := by
  rw [cursorStreams, List.map_map]
  exact List.map_congr_left fun c _ => h c

theorem cursorStreams_updateCursor (s : State) (x : StreamId) {g : Cursor → Cursor} (h : ∀ c, (g c).stream = c.stream) :
    cursorStreams (updateCursor s x g) = cursorStreams s :=
  cursorStreams_mapCursors s fun c => by split; exacts [h c, rfl]

theorem evict_records_sublist (s : State) (vs : List ParcelRecord) : (evict s vs).pst.records.Sublist s.pst.records := by
  refine foldl_sublist (·.pst.records) (fun s r => ?_) vs s
  dsimp only
  split <;> exact freeRecord_records_sublist s _ _

theorem act_keeps_cursorsSound (a b : State) (h : Act a b) (ha : CursorsSound a) : CursorsSound b := by
  cases h with
  | aside h _ _ table => exact ha.within h table
  | count h => exact ha.within h fun x => by rw [h.table]
  | thin q => exact ha
  | rewrite q => exact ha
  | insert q e => exact ha
  | free x f =>
    have hw := within_freeRecord a x f
    exact ha.sublist (by rw [cursorStreams, hw.cursors]; rfl) (fun x => by rw [hw.table]) (freeRecord_records_sublist a x f)
  | update x f g h =>
    refine ha.of rfl (fun _ => rfl) fun r hr => .inl ?_
    obtain ⟨q, hq, rfl⟩ := List.mem_map.1 hr
    refine ⟨q, hq, ?_⟩
    split
    · exact (h q).1.symm
    · rfl
  | fill j o vs room new subscribed =>
    have hw : Within [.store, .queue, .counters, .pageMem] a (fillRecord (evict a vs) j o) :=
      (within_evict a vs).mono.trans (within_fillRecord (evict a vs) j o).mono
    refine ha.of (by rw [cursorStreams, hw.cursors]; rfl) (fun x => by rw [hw.table]) fun r hr => ?_
    rcases List.mem_append.1 hr with hr | hr
    · exact .inl ⟨r, (evict_records_sublist a vs).subset hr, rfl⟩
    · rw [List.mem_singleton.1 hr]
      exact .inr subscribed
  | mark g h => exact ha.sublist (cursorStreams_mapCursors a fun c => (h c).1) (fun _ => rfl) (.refl _)
  | advance x f g h => exact ha.sublist (cursorStreams_updateCursor a x fun c => (h c).1) (fun _ => rfl) (.refl _)
  | unset x => exact ha.sublist (cursorStreams_updateCursor a x fun _ => rfl) (fun _ => rfl) (.refl _)
  | retable t => exact ha.tableChange t
  | forget queue store => exact ⟨.nil, fun _ => rfl, fun r hr => by rw [show (forgetUsers a).pst.records = [] from store] at hr; cases hr⟩
  | create => exact ha
  | rejob => exact ha
  | assign => exact ha
  | finish => exact ha
  | leave => exact ha
  | stop => exact ha

/-! ### Queued answers (R159) -/

theorem answersSound_iff (s : State) : AnswersSound s ↔ ∀ e ∈ s.lnk.queue, Answered s e :=
  ⟨fun ⟨hg, hp⟩ e he => ⟨hg e he, hp e he⟩, fun h => ⟨fun e he => (h e he).1, fun e he => (h e he).2⟩⟩

theorem Answered.congr {a b : State} {e d : Entry} (h : Answered a e) (hc : ∀ x, cursorFrame b x = cursorFrame a x)
    (hk : d.key = e.key) : Answered b d := by
  simp only [Entry.key, Prod.mk.injEq] at hk
  obtain ⟨hkind, hstream, hframe, -⟩ := hk
  unfold Answered
  simp only [hkind, hstream, hframe, hc]
  exact h

theorem AnswersSound.of {a b : State} (h : AnswersSound a) (hc : ∀ x, cursorFrame b x = cursorFrame a x)
    (hq : ∀ d ∈ b.lnk.queue, ∃ e ∈ a.lnk.queue, d.key = e.key) : AnswersSound b := by
  rw [answersSound_iff] at h ⊢
  intro d hd
  obtain ⟨e, he, hk⟩ := hq d hd
  exact (h e he).congr hc hk

theorem AnswersSound.sublist {a b : State} (h : AnswersSound a) (hc : b.dlv.cursors = a.dlv.cursors)
    (hq : b.lnk.queue.Sublist a.lnk.queue) : AnswersSound b :=
  h.of (cursorFrame_congr hc) fun d hd => ⟨d, hq.subset hd, rfl⟩

theorem AnswersSound.within {ps : List Part} {a b : State} (h : AnswersSound a) (hw : Within ps a b)
    (hc : Part.cursors ∉ ps := by decide) (hq : Part.queue ∉ ps := by decide) : AnswersSound b :=
  h.sublist (hw.cursors hc) (hw.queue hq ▸ .refl _)

theorem cursorFrame_mapCursors (s : State) {g : Cursor → Cursor} (h : ∀ c, (g c).stream = c.stream ∧ (g c).cursor = c.cursor)
    (x : StreamId) : cursorFrame { s with dlv := { s.dlv with cursors := s.dlv.cursors.map g } } x = cursorFrame s x := by
  unfold cursorFrame cursorOf
  rw [List.find?_map]
  have hs : ((fun c : Cursor => c.stream == x) ∘ g) = fun c => c.stream == x := funext fun c => by simp [(h c).1]
  rw [hs]
  cases s.dlv.cursors.find? (fun c => c.stream == x) with
  | none => rfl
  | some c => exact (h c).2

/-- A frame at which a cursor is set is one of a cursor entry. -/
theorem cursorOf_isSome_of_frame {s : State} {x : StreamId} {f : FrameCount} (h : cursorFrame s x = some f) :
    (cursorOf s x).isSome = true := by
  cases hc : cursorOf s x with
  | some c => rfl
  | none =>
    rw [cursorFrame, hc] at h
    cases h

theorem AnswersSound.advance {s : State} (hs : AnswersSound s) (x : StreamId) (f : FrameCount) {g : Cursor → Cursor}
    (h : ∀ c, (g c).stream = c.stream ∧ (g c).cursor = some f) :
    AnswersSound (withdraw (updateCursor s x g) (otherAnswer x f)) := by
  rw [answersSound_iff] at hs ⊢
  intro e he
  rw [withdraw, setQueue_lnk_queue, List.mem_filter] at he
  obtain ⟨he, hkeep⟩ := he
  have hold := hs e he
  have hframe (y : StreamId) (hy : y ≠ x) : cursorFrame (withdraw (updateCursor s x g) (otherAnswer x f)) y = cursorFrame s y := by
    show (cursorOf (updateCursor s x g) y).bind _ = _
    rw [cursorOf_updateCursor s x y fun c => (h c).1, if_neg hy]
    rfl
  have hself (hx : (cursorOf s x).isSome = true) :
      cursorFrame (withdraw (updateCursor s x g) (otherAnswer x f)) x = some f := cursorFrame_updateCursor_self h hx
  refine ⟨fun hk => ?_, fun hk => ?_⟩
  · obtain ⟨y, k, hy, hf, hc⟩ := hold.1 hk
    refine ⟨y, k, hy, hf, ?_⟩
    by_cases hyx : y = x
    · subst hyx
      have : k = f := by simpa [otherAnswer, hk, hy, hf] using hkeep
      rw [this]
      exact hself (cursorOf_isSome_of_frame hc)
    · rw [hframe y hyx]
      exact hc
  · obtain ⟨y, k, hy, hf, hc⟩ := hold.2 hk
    refine ⟨y, k, hy, hf, ?_⟩
    by_cases hyx : y = x
    · subst hyx
      have : k = f := by simpa [otherAnswer, hk, hy, hf] using hkeep
      rw [this]
      cases hcur : cursorOf s y with
      | some c => exact .inr (hself (by rw [hcur]; rfl))
      | none =>
        refine .inl ?_
        show (cursorOf (updateCursor s y g) y).bind _ = _
        rw [cursorOf_updateCursor s y y fun c => (h c).1, hcur, if_pos rfl]
        rfl
    · rw [hframe y hyx]
      exact hc

theorem AnswersSound.unset {s : State} (hs : AnswersSound s) (x : StreamId) : AnswersSound (unsetCursor s x) := by
  rw [answersSound_iff] at hs ⊢
  intro e he
  rw [unsetCursor, withdrawGaps, withdraw, setQueue_lnk_queue, List.mem_filter] at he
  obtain ⟨he, hkeep⟩ := he
  have hframe (y : StreamId) : cursorFrame (unsetCursor s x) y = if y = x then none else cursorFrame s y := by
    show (cursorOf (updateCursor s x _) y).bind _ = _
    rw [cursorOf_updateCursor (g := fun c => { c with cursor := none, carryIn := none, deadline := .none }) s x y fun _ => rfl]
    by_cases hyx : y = x
    · rw [if_pos hyx, if_pos hyx]
      cases cursorOf s y <;> rfl
    · rw [if_neg hyx, if_neg hyx]
      rfl
  obtain ⟨hg, hp⟩ := hs e he
  refine ⟨fun hk => ?_, fun hk => ?_⟩
  · obtain ⟨y, k, hy, hf, hc⟩ := hg hk
    have hyx : y ≠ x := by simpa [hk, hy] using hkeep
    exact ⟨y, k, hy, hf, by rw [hframe, if_neg hyx]; exact hc⟩
  · obtain ⟨y, k, hy, hf, hc⟩ := hp hk
    refine ⟨y, k, hy, hf, ?_⟩
    rw [hframe]
    split
    · exact .inl rfl
    · exact hc

theorem AnswersSound.tableChange {s : State} (hs : AnswersSound s) (t : List Subscription) :
    AnswersSound (Machine.tableChange s t) := by
  rw [answersSound_iff] at hs ⊢
  intro e he
  obtain ⟨he, hgap⟩ := mem_tableChange_queue he
  obtain ⟨hg, hp⟩ := hs e he
  have hframe (y : StreamId) : cursorFrame (Machine.tableChange s t) y = if names t y then cursorFrame s y else none := by
    rw [cursorFrame, cursorOf_tableChange]
    split
    · cases hc : cursorOf s y with
      | none => simp [cursorFrame, hc, freshCursor]
      | some c => simp [cursorFrame, hc]
    · rfl
  refine ⟨fun hk => ?_, fun hk => ?_⟩
  · obtain ⟨y, k, hy, hf, hc⟩ := hg hk
    exact ⟨y, k, hy, hf, by rw [hframe, if_pos (hgap y hk hy (cursorOf_isSome_of_frame hc))]; exact hc⟩
  · obtain ⟨y, k, hy, hf, hc⟩ := hp hk
    refine ⟨y, k, hy, hf, ?_⟩
    rw [hframe]
    split
    · exact hc
    · exact .inl rfl

theorem act_keeps_answersSound (a b : State) (h : Act a b) (ha : AnswersSound a) : AnswersSound b := by
  cases h with
  | aside h => exact ha.within h
  | count h => exact ha.within h
  | thin q h => exact ha.sublist rfl h
  | rewrite q h =>
    refine ha.of (fun _ => rfl) fun d hd => ?_
    have : d.key ∈ a.lnk.queue.map Entry.key := h ▸ List.mem_map_of_mem hd
    obtain ⟨e, he, hk⟩ := List.mem_map.1 this
    exact ⟨e, he, hk.symm⟩
  | insert q e h room new answered =>
    rw [answersSound_iff] at ha ⊢
    intro d hd
    rcases mem_placeEntry.1 hd with rfl | hd
    · exact answered.congr (fun _ => rfl) rfl
    · exact (ha d (h.subset hd)).congr (fun _ => rfl) rfl
  | free x f => exact ha.sublist (within_freeRecord a x f).cursors (freeRecord_queue_sublist a x f)
  | update => exact ha
  | fill j o vs =>
    have hw : Within [.store, .queue, .counters, .pageMem] a (fillRecord (evict a vs) j o) :=
      (within_evict a vs).mono.trans (within_fillRecord (evict a vs) j o).mono
    exact ha.sublist hw.cursors (evict_queue_sublist a vs)
  | mark g h => exact ha.of (cursorFrame_mapCursors a h) fun d hd => ⟨d, hd, rfl⟩
  | advance x f g h => exact ha.advance x f h
  | unset x => exact ha.unset x
  | retable t => exact ha.tableChange t
  | forget queue =>
    rw [answersSound_iff]
    intro e he
    have hk := queue e he
    exact answered_of_kind (by rw [hk]; decide) (by rw [hk]; decide)
  | create => exact ha
  | rejob => exact ha
  | assign => exact ha
  | finish => exact ha
  | leave => exact ha
  | stop => exact ha

theorem cursorsSound_of_empty {s : State} (hc : s.dlv.cursors = []) (ht : s.sub.table = []) (hr : s.pst.records = []) :
    CursorsSound s := by
  unfold CursorsSound cursorOf
  rw [hc, ht, hr]
  exact ⟨.nil, fun _ => rfl, fun _ h => by cases h⟩

theorem answersSound_of_empty {s : State} (hq : s.lnk.queue = []) : AnswersSound s := by
  rw [answersSound_iff, hq]
  exact fun _ h => by cases h

/-- Settles O58: every act keeps the laws of the cursor table and of queued answers. -/
theorem stepKeepsCursorsSound : Obligations.StepKeepsCursorsSound := fun _ _ hc ha h =>
  ⟨step_keeps act_keeps_cursorsSound (fun _ _ => cursorsSound_of_empty rfl rfl rfl)
    (fun _ _ _ => cursorsSound_of_empty rfl rfl rfl) (fun _ => hc) h,
   step_keeps act_keeps_answersSound (fun _ _ => answersSound_of_empty rfl) (fun _ _ _ => answersSound_of_empty rfl)
    (fun _ => ha) h⟩

end Sys2Proof.Machine

/-! PROOFS. What the shared operations do to the map unit: notices touch its marks alone, job creation its marker alone. -/

namespace Sys2Proof.Machine

-- one theorem at a time: elaborated side by side, they would hold more threads than the check allows
set_option Elab.async false

/-! ### Notices (R41) -/

/-- The map unit is as it was, but for the notice-wanted marks and the hold-off. -/
def Noticed (a b : State) : Prop :=
  b.maps = { a.maps with wantCurrent := b.maps.wantCurrent, wantNext := b.maps.wantNext, holdOff := b.maps.holdOff }

theorem Noticed.of_eq {a b : State} (h : b.maps = a.maps) : Noticed a b := by rw [Noticed, h]

theorem Noticed.refl (a : State) : Noticed a a := .of_eq rfl

theorem Noticed.trans {a b c : State} (h : Noticed a b) (k : Noticed b c) : Noticed a c := by
  unfold Noticed at *
  rw [k, h]

theorem Noticed.within {ps : List Part} {a b : State} (h : Within ps a b) (hm : Part.mapUnit ∉ ps := by decide) :
    Noticed a b := .of_eq (h.maps hm)

theorem Noticed.foldl {α : Type} {f : State → α → State} (h : ∀ s x, Noticed s (f s x)) (l : List α) (s : State) :
    Noticed s (l.foldl f s) := by
  induction l generalizing s with
  | nil => exact .refl s
  | cons x xs ih => exact (h s x).trans (ih (f s x))

theorem Noticed.ite {s a b : State} {c : Prop} [Decidable c] (ha : c → Noticed s a) (hb : ¬c → Noticed s b) :
    Noticed s (if c then a else b) := by
  split
  · exact ha ‹_›
  · exact hb ‹_›

theorem Noticed.current {a b : State} (h : Noticed a b) : b.maps.current = a.maps.current := by rw [h]
theorem Noticed.next {a b : State} (h : Noticed a b) : b.maps.next = a.maps.next := by rw [h]
theorem Noticed.outgoing {a b : State} (h : Noticed a b) : b.maps.outgoing = a.maps.outgoing := by rw [h]
theorem Noticed.marker {a b : State} (h : Noticed a b) : b.maps.marker = a.maps.marker := by rw [h]

theorem noticed_noticeSent (s : State) (isNext : Bool) : Noticed s (noticeSent s isNext) := rfl

theorem noticed_testNotice (s : State) : Noticed s (testNotice s) := by
  unfold testNotice
  have h : Noticed s (offerEntry s (noticeEntry s (!s.maps.wantCurrent))).1 := .within (within_offerEntry s _)
  exact .ite (fun _ => .ite (fun _ => h.trans (noticed_noticeSent _ _)) fun _ => h) fun _ => .refl s

theorem noticed_offer (s : State) (e : Entry) : Noticed s (offer s e).1 := by
  have h : Noticed s (offerEntry s e).1 := .within (within_offerEntry s e)
  unfold offer
  dsimp only
  split
  · exact h.trans (noticed_testNotice _)
  · exact h

theorem noticed_offerAnyway (s : State) (e : Entry) : Noticed s (offerAnyway s e) := noticed_offer s e

theorem noticed_offerNotice (s : State) (k : MsgKind) : Noticed s (offerNotice s k) := noticed_offer s _

theorem noticed_queueParcel (s : State) (r : ParcelRecord) : Noticed s (queueParcel s r) := by
  unfold queueParcel
  dsimp only
  split
  · exact (noticed_offer s _).trans (.within (within_updateRecord _ _ _ _))
  · exact (noticed_offer s _).trans (.within (within_freeRecord _ _ _))

theorem noticed_handOver (s : State) (r : ParcelRecord) : Noticed s (handOver s r) := by
  unfold handOver
  split
  · exact .ite (fun _ => noticed_queueParcel s r) fun _ => .within (within_updateRecord _ _ _ _)
  · exact .within (within_updateRecord _ _ _ _)

theorem noticed_queueGap (s : State) (x : StreamId) (f : FrameCount) (y : GapReason) : Noticed s (queueGap s x f y) :=
  noticed_offer s _

theorem noticed_answerDeadline (s : State) (x : StreamId) (f : FrameCount) : Noticed s (answerDeadline s x f) := by
  unfold answerDeadline
  exact .ite (fun _ => .refl s) fun _ => .ite
    (fun _ => (noticed_queueGap s x f _).trans (.within (within_freeRecord _ _ _))) fun _ =>
      .ite (fun _ => noticed_queueGap s x f _) fun _ => noticed_queueGap s x f _

theorem noticed_expireDeadline (s : State) (x : StreamId) (f : FrameCount) : Noticed s (expireDeadline s x f) :=
  (Noticed.ite (fun _ => .refl s) fun _ => noticed_answerDeadline s x f).trans (.within (within_updateCursor _ _ _))

theorem noticed_armDeadline (s : State) (x : StreamId) (f : FrameCount) : Noticed s (armDeadline s x f) := by
  unfold armDeadline
  split
  · exact .within (within_updateCursor _ _ _)
  split
  · exact .within (within_updateCursor _ _ _)
  · exact .ite (fun _ => .within (within_updateCursor _ _ _)) fun _ => noticed_expireDeadline s x f

theorem noticed_releaseHeld (s : State) (x : StreamId) (f : FrameCount) : Noticed s (releaseHeld s x f) := by
  unfold releaseHeld
  split
  · exact .refl s
  · exact .ite (fun _ => noticed_queueParcel s _) fun _ => .refl s

theorem noticed_arriveAt (s : State) (x : StreamId) (f : FrameCount) : Noticed s (arriveAt s x f) :=
  ((Noticed.within (within_withdrawOthers s x f)).trans (.within (within_rewalk _ x f))).trans
    ((noticed_releaseHeld _ x f).trans (noticed_armDeadline _ x f))

theorem noticed_setCursor (s : State) (x : StreamId) (f : FrameCount) (k : Option Nat) : Noticed s (setCursor s x f k) :=
  (Noticed.within (within_updateCursor s x _)).trans (noticed_arriveAt _ x f)

theorem noticed_moveCursor (s : State) (x : StreamId) (f : FrameCount) (k : Option Nat) : Noticed s (moveCursor s x f k) := by
  unfold moveCursor
  split
  · exact .refl s
  · exact .ite (fun _ => noticed_setCursor s x _ k) fun _ => .refl s

theorem noticed_reviewCursor (s : State) (x : StreamId) : Noticed s (reviewCursor s x) := by
  have h (t : State) (g : Cursor → Cursor) : Noticed t (updateCursor t x g) := .within (within_updateCursor t x g)
  unfold reviewCursor
  split
  · exact .refl s
  split
  · exact .ite (fun _ => .refl s) fun _ => (h s _).trans (.within (within_unsetCursor _ x))
  dsimp only
  split
  · exact h s _
  · refine .ite (fun _ => .ite (fun _ => (h s _).trans (noticed_armDeadline _ x _)) fun _ => h s _) fun _ => ?_
    exact .ite (fun _ => h s _) fun _ => ((h s _).trans (h _ _)).trans (.within (within_withdraw _ _))

theorem noticed_reviewCursors (s : State) : Noticed s (reviewCursors s) := .foldl noticed_reviewCursor _ s

theorem noticed_repeatLapsed (s : State) : Noticed s (repeatLapsed s) := by
  refine .foldl (fun s x => ?_) _ s
  split
  · split
    · exact .ite (fun _ => noticed_answerDeadline s x _) fun _ => .refl s
    · exact .refl s
  · exact .refl s

theorem noticed_placeRecord (s : State) (r : ParcelRecord) : Noticed s (placeRecord s r) := by
  have h (t : State) (g : ParcelRecord → ParcelRecord) : Noticed t (updateRecord t r.stream r.frame g) :=
    .within (within_updateRecord t _ _ g)
  unfold placeRecord
  exact .ite (fun _ => h s _) fun _ => .ite (fun _ => (h s _).trans (h _ _)) fun _ => (h s _).trans (noticed_handOver _ r)

theorem noticed_makeRecord (s : State) (j : Job) (o : JobOutcome) : Noticed s (makeRecord s j o) := by
  unfold makeRecord
  refine .ite (fun _ => .within (within_countStoreDrop s)) fun _ => ?_
  split
  · exact .within (within_countStoreDrop s)
  rename_i vs _
  have h : Noticed s (fillRecord (evict s vs) j o) :=
    (Noticed.within (within_evict s vs)).trans (.within (within_fillRecord _ j o))
  dsimp only
  refine .ite (fun _ => h) fun _ => ?_
  split
  · exact h.trans (noticed_placeRecord _ _)
  · exact h

theorem noticed_confirmRecord (s : State) (x : StreamId) (f : FrameCount) : Noticed s (confirmRecord s x f) := by
  have h (g : ParcelRecord → ParcelRecord) : Noticed s (updateRecord s x f g) := .within (within_updateRecord s x f g)
  unfold confirmRecord
  dsimp only
  split
  · exact h _
  · exact .ite (fun _ => (h _).trans (.within (within_freeRecord _ x f))) fun _ => (h _).trans (noticed_placeRecord _ _)

theorem noticed_confirmRecords (s : State) : Noticed s (confirmRecords s) :=
  .foldl (fun s (r : ParcelRecord) => noticed_confirmRecord s r.stream r.frame) _ s

theorem noticed_reportIdle (s : State) : Noticed s (reportIdle s) :=
  .ite (fun _ => noticed_offerAnyway s _) fun _ => .refl s

theorem noticed_dispose (s : State) (j : Job) (o : JobOutcome) : Noticed s (dispose s j o) :=
  .ite (fun _ => .within (within_countLateParcel s)) fun _ => noticed_makeRecord s j o

theorem noticed_offerTrace (s : State) (j : Job) (o : JobOutcome) : Noticed s (offerTrace s j o) :=
  .ite (fun _ => noticed_offerAnyway s _) fun _ => .refl s

theorem noticed_cadencePoint (s : State) : Noticed s (cadencePoint s) :=
  (Noticed.ite (fun _ => noticed_offerNotice s _) fun _ => .refl s).trans
    (.ite (fun _ => noticed_offerNotice _ _) fun _ => .ite (fun _ => noticed_offerNotice _ _) fun _ => .refl _)

theorem noticed_tellOwner (s : State) (e : Entry) : Noticed s (tellOwner s e) := by
  unfold tellOwner
  split
  · exact .within (within_tellStore s e)
  · exact noticed_testNotice s
  · exact .refl s

theorem noticed_resolve (s : State) (x : StreamId) (f : FrameCount) (k : Option Nat) : Noticed s (resolve s x f k) :=
  ((Noticed.within (within_withdraw s _)).trans (.within (within_freeRecord _ x f))).trans (noticed_moveCursor _ x f k)

theorem noticed_setMarks (s : State) (c n : Bool) :
    Noticed s (setMaps s { s.maps with wantCurrent := c, wantNext := n }) := rfl

theorem noticed_raiseMarks (s : State) (p : Peer) : Noticed s (raiseMarks s p) :=
  .ite (fun _ => (noticed_setMarks s _ _).trans (noticed_testNotice _)) fun _ => .refl s

theorem noticed_trimMarks (s : State) : Noticed s (trimMarks s) := rfl

theorem noticed_mapChanged (s : State) : Noticed s (mapChanged s) :=
  ((noticed_trimMarks s).trans (.within (within_classReview _))).trans
    ((Noticed.within (within_claimReview _)).trans (noticed_reviewCursors _))

/-! ### Job creation (R33, R58) -/

/-- The map unit is as it was, but for the checkpoint marker, and for that too while the next map is NONE. -/
def Marked (a b : State) : Prop :=
  b.maps = { a.maps with marker := b.maps.marker } ∧ (a.maps.next.state = .none → b.maps.marker = a.maps.marker)

theorem Marked.of_eq {a b : State} (h : b.maps = a.maps) : Marked a b := ⟨by rw [h], fun _ => by rw [h]⟩

theorem Marked.refl (a : State) : Marked a a := .of_eq rfl

theorem Marked.trans {a b c : State} (h : Marked a b) (k : Marked b c) : Marked a c := by
  obtain ⟨h1, h2⟩ := h
  obtain ⟨k1, k2⟩ := k
  have hn : b.maps.next = a.maps.next := by rw [h1]
  exact ⟨by rw [k1, h1], fun h => by rw [k2 (by rw [hn, h]), h2 h]⟩

theorem Marked.within {ps : List Part} {a b : State} (h : Within ps a b) (hm : Part.mapUnit ∉ ps := by decide) :
    Marked a b := .of_eq (h.maps hm)

theorem Marked.foldl {α : Type} {f : State → α → State} (h : ∀ s x, Marked s (f s x)) (l : List α) (s : State) :
    Marked s (l.foldl f s) := by
  induction l generalizing s with
  | nil => exact .refl s
  | cons x xs ih => exact (h s x).trans (ih (f s x))

theorem Marked.ite {s a b : State} {c : Prop} [Decidable c] (ha : c → Marked s a) (hb : ¬c → Marked s b) :
    Marked s (if c then a else b) := by
  split
  · exact ha ‹_›
  · exact hb ‹_›

theorem Marked.current {a b : State} (h : Marked a b) : b.maps.current = a.maps.current := by rw [h.1]
theorem Marked.next {a b : State} (h : Marked a b) : b.maps.next = a.maps.next := by rw [h.1]
theorem Marked.outgoing {a b : State} (h : Marked a b) : b.maps.outgoing = a.maps.outgoing := by rw [h.1]

theorem nextApplies_none {u : MapUnit} (h : u.next.state = .none) (f : FrameCount) : nextApplies u f = false := by
  rw [nextApplies, h]
  rfl

theorem marked_openCheckpoint {s : State} (h : s.maps.next.state ≠ .none) (x : StreamId) : Marked s (openCheckpoint s x) := by
  unfold openCheckpoint
  dsimp only
  split
  · exact .refl s
  · exact ⟨rfl, fun hn => absurd hn h⟩

theorem marked_createJob (s : State) (x : StreamId) (c : JobClass) (f : FrameCount) (r : Instant) :
    Marked s (createJob s x c f r) := by
  unfold createJob
  dsimp only
  split
  · exact .refl s
  refine .ite (fun _ => .refl s) fun _ => ?_
  refine Marked.trans (Marked.ite (fun hs => marked_openCheckpoint (fun hn => ?_) x) fun _ => .refl s)
    (.within (within_setJobs _ _))
  rw [nextApplies_none hn] at hs
  cases hs

theorem marked_createFrame (s : State) (f : FrameCount) (r : Instant) : Marked s (createFrame s f r) :=
  .foldl (fun s (p : StreamId × JobClass) => marked_createJob s p.1 p.2 f r) _ s

theorem marked_createMissed (s : State) (f : FrameCount) (r : Instant) : Marked s (createMissed s f r) :=
  .foldl (fun s (p : StreamId × JobClass) => .ite (fun _ => .refl s) fun _ => marked_createJob s p.1 p.2 f r) _ s

theorem marked_recreateJob (s : State) (x : StreamId) (c : JobClass) (f : FrameCount) (r : Instant) :
    Marked s (recreateJob s x c f r) := by
  unfold recreateJob
  refine .ite (fun _ => .refl s) fun _ => ?_
  split
  · exact .ite (fun _ => .within (within_updateJob s x f _)) fun _ => .refl s
  · exact marked_createJob s x c f r

theorem marked_recreateFrame (s : State) (f : FrameCount) (r : Instant) : Marked s (recreateFrame s f r) :=
  .foldl (fun s (p : StreamId × JobClass) => marked_recreateJob s p.1 p.2 f r) _ s

theorem marked_createOver (s : State) (q : FrameCount → Bool) {create : State → FrameCount → Instant → State}
    (h : ∀ s f r, Marked s (create s f r)) : Marked s (createOver s q create) := by
  refine .foldl (fun s f => ?_) _ s
  split
  · exact .ite (fun _ => h s f _) fun _ => .refl s
  · exact .refl s

theorem marked_settleJobs (s : State) : Marked s (settleJobs s) := .within (within_settleJobs s)

theorem marked_catchUp (s : State) (d : FrameCount) : Marked s (catchUp s d) :=
  .ite (fun _ => (marked_createOver s _ marked_createMissed).trans (marked_settleJobs _)) fun _ => .refl s

theorem marked_restartPass (s : State) : Marked s (restartPass s) :=
  .ite (fun _ => (marked_createOver s _ marked_createMissed).trans (marked_settleJobs _)) fun _ => .refl s

theorem marked_recreateFrom (s : State) (c : FrameCount) : Marked s (recreateFrom s c) :=
  .ite (fun _ => (marked_createOver s _ marked_recreateFrame).trans (marked_settleJobs _)) fun _ => marked_settleJobs s

theorem marked_recreatePutOff (s : State) (x : StreamId) (f : FrameCount) : Marked s (recreatePutOff s x f) := by
  unfold recreatePutOff
  split
  · exact .ite (fun _ => marked_createJob s x _ f _) fun _ => .refl s
  · exact .refl s

/-! ### The three maps, whatever is done -/

/-- The current, next and outgoing maps are as they were, but for the deferred-from frames. -/
def MapsStand (a b : State) : Prop :=
  { b.maps.current with deferred := none } = { a.maps.current with deferred := none } ∧
  { b.maps.next with deferred := none } = { a.maps.next with deferred := none } ∧ b.maps.outgoing = a.maps.outgoing

theorem MapsStand.of_eq {a b : State} (hc : b.maps.current = a.maps.current) (hn : b.maps.next = a.maps.next)
    (ho : b.maps.outgoing = a.maps.outgoing) : MapsStand a b := ⟨by rw [hc], by rw [hn], ho⟩

theorem MapsStand.refl (a : State) : MapsStand a a := .of_eq rfl rfl rfl

theorem MapsStand.trans {a b c : State} (h : MapsStand a b) (k : MapsStand b c) : MapsStand a c := by
  obtain ⟨h1, h2, h3⟩ := h
  obtain ⟨k1, k2, k3⟩ := k
  exact ⟨k1.trans h1, k2.trans h2, k3.trans h3⟩

theorem Noticed.stand {a b : State} (h : Noticed a b) : MapsStand a b := .of_eq h.current h.next h.outgoing
theorem Marked.stand {a b : State} (h : Marked a b) : MapsStand a b := .of_eq h.current h.next h.outgoing

theorem MapsStand.within {ps : List Part} {a b : State} (h : Within ps a b) (hm : Part.mapUnit ∉ ps := by decide) :
    MapsStand a b := (Noticed.within h hm).stand

theorem MapsStand.state {a b : State} (h : MapsStand a b) : b.maps.current.state = a.maps.current.state :=
  (congrArg MuxMap.state h.1 :)
theorem MapsStand.count {a b : State} (h : MapsStand a b) : b.maps.current.count = a.maps.current.count :=
  (congrArg MuxMap.count h.1 :)
theorem MapsStand.entryCount {a b : State} (h : MapsStand a b) : b.maps.current.entryCount = a.maps.current.entryCount :=
  (congrArg MuxMap.entryCount h.1 :)
theorem MapsStand.source {a b : State} (h : MapsStand a b) : b.maps.current.source = a.maps.current.source :=
  (congrArg MuxMap.source h.1 :)
theorem MapsStand.entries {a b : State} (h : MapsStand a b) : b.maps.current.entries = a.maps.current.entries :=
  (congrArg MuxMap.entries h.1 :)
theorem MapsStand.nextState {a b : State} (h : MapsStand a b) : b.maps.next.state = a.maps.next.state :=
  (congrArg MuxMap.state h.2.1 :)
theorem MapsStand.nextCount {a b : State} (h : MapsStand a b) : b.maps.next.count = a.maps.next.count :=
  (congrArg MuxMap.count h.2.1 :)
theorem MapsStand.nextEntryCount {a b : State} (h : MapsStand a b) : b.maps.next.entryCount = a.maps.next.entryCount :=
  (congrArg MuxMap.entryCount h.2.1 :)
theorem MapsStand.nextSource {a b : State} (h : MapsStand a b) : b.maps.next.source = a.maps.next.source :=
  (congrArg MuxMap.source h.2.1 :)
theorem MapsStand.nextEntries {a b : State} (h : MapsStand a b) : b.maps.next.entries = a.maps.next.entries :=
  (congrArg MuxMap.entries h.2.1 :)
theorem MapsStand.nextChangeFrame {a b : State} (h : MapsStand a b) :
    b.maps.next.changeFrame = a.maps.next.changeFrame := (congrArg MuxMap.changeFrame h.2.1 :)

theorem stand_defer (s : State) (f : FrameCount) : MapsStand s (defer s f) := by
  unfold defer
  dsimp only
  split
  · exact ⟨rfl, rfl, rfl⟩
  split
  · split
    · exact .refl s
    · exact ⟨rfl, rfl, rfl⟩
  · exact ⟨rfl, rfl, rfl⟩

theorem stand_jobsAtPayloadEnd (s : State) (g : FrameCount) (whole : Bool) : MapsStand s (jobsAtPayloadEnd s g whole) := by
  have h : MapsStand s (noteArrival (expire s) g) :=
    (MapsStand.within (within_expire s)).trans (.within (within_noteArrival _ g))
  unfold jobsAtPayloadEnd
  dsimp only
  refine .trans ?_ (marked_settleJobs _).stand
  split
  · refine h.trans ?_
    unfold createOrDefer
    split
    · exact (marked_createFrame _ _ _).stand
    · exact stand_defer _ _
  · exact h

theorem stand_issuePayloadEnd (s : State) (received : Bool) : MapsStand s (issuePayloadEnd s received) :=
  (MapsStand.refl s).trans (stand_jobsAtPayloadEnd _ _ _)

theorem stand_endPayload (s : State) : MapsStand s (endPayload s) := by
  have h : MapsStand s (failIfUnnamed s) := .within (within_failIfUnnamed s)
  unfold endPayload
  split
  · exact .refl s
  split
  · exact .refl s
  dsimp only
  split
  · exact h
  refine h.trans ?_
  unfold finishPayload
  dsimp only
  split
  · exact (MapsStand.within (within_setFrame _ _)).trans (stand_issuePayloadEnd _ _)
  · exact (MapsStand.within (within_setFrame _ _)).trans (.within (within_clearFill _))

theorem stand_endFrame (s : State) : MapsStand s (endFrame s) :=
  (MapsStand.within (within_endControl s)).trans (stand_endPayload _)

theorem stand_currentReady (s : State) : MapsStand s (currentReady s) := by
  unfold currentReady
  split
  · split
    · exact MapsStand.trans (b := setCurrent s _) ⟨rfl, rfl, rfl⟩ (marked_catchUp _ _).stand
    · exact .refl s
  · exact .refl s

theorem stand_nextReady (s : State) : MapsStand s (nextReady s) := by
  unfold nextReady
  split
  · split
    · exact MapsStand.trans (b := setNext s _) ⟨rfl, rfl, rfl⟩ (marked_catchUp _ _).stand
    · exact .refl s
  · exact .refl s

/-- What every change to the maps ends with changes no map but for its deferred-from frame. -/
theorem stand_settleMaps (s : State) : MapsStand s (settleMaps s) :=
  ((noticed_mapChanged s).stand.trans (stand_currentReady _)).trans (stand_nextReady _)

theorem stand_retire (s : State) (e : EngineId) (j : Job) (o : JobOutcome) : MapsStand s (retire s e j o) := by
  have h : MapsStand s (leaveTable (offerTrace (dispose s j o) j o) e j) :=
    ((noticed_dispose s j o).trans (noticed_offerTrace _ j o)).stand.trans (.within (within_leaveTable _ e j))
  unfold retire
  dsimp only
  refine .trans (.trans ?_ (noticed_reportIdle _).stand) (marked_settleJobs _).stand
  split
  · exact h.trans (marked_recreatePutOff _ _ _).stand
  · exact h

theorem stand_endDecoding (s : State) (e : EngineId) (d : Decoded) : MapsStand s (endDecoding s e d) := by
  unfold endDecoding
  split
  · split
    · exact .refl s
    · exact ((MapsStand.within (within_updateJob s _ _ _)).trans (.within (within_advanceContext _ e _ _))).trans
        (stand_retire _ e _ _)
  · exact .refl s

end Sys2Proof.Machine

/-! PROOFS. What a class review and a claim review leave; O57: the laws of the claims. -/

namespace Sys2Proof.Machine

-- one theorem at a time: elaborated side by side, they would hold more threads than the check allows
set_option Elab.async false

/-! ### The class review (R140) -/

/-- Two maps give every stream the same grains, or hold it in neither: all that decode loads read of them (R140, R148). -/
def SameLoads (m n : MuxMap) : Prop := ∀ x, (n.entryOf x).map (·.grains) = (m.entryOf x).map (·.grains)

theorem SameLoads.of_entries {m n : MuxMap} (h : n.entries = m.entries) : SameLoads m n := fun x => by
  rw [MuxMap.entryOf, h]
  rfl

theorem SameLoads.trans {m n o : MuxMap} (h : SameLoads m n) (k : SameLoads n o) : SameLoads m o :=
  fun x => (k x).trans (h x)

theorem SameLoads.grainsOf {m n : MuxMap} (h : SameLoads m n) : n.grainsOf = m.grainsOf := by
  funext x
  rw [MuxMap.grainsOf, h x]
  rfl

theorem SameLoads.isSome {m n : MuxMap} (h : SameLoads m n) (x : StreamId) : (n.entryOf x).isSome = (m.entryOf x).isSome := by
  rw [← Option.isSome_map (f := fun e : MapEntry => e.grains), h x, Option.isSome_map]

theorem admitStreams_congr {m n : MuxMap} (h : SameLoads m n) (total : Nat) (xs : List StreamId) :
    admitStreams n total xs = admitStreams m total xs := by
  induction xs generalizing total with
  | nil => rfl
  | cons x xs ih => simp only [admitStreams, h.grainsOf, ih]

theorem admitStreams_le {m : MuxMap} {total : Nat} (h : total ≤ loadLimit) (xs : List StreamId) :
    (admitStreams m total xs).2 ≤ loadLimit := by
  induction xs generalizing total with
  | nil => exact h
  | cons x xs ih =>
    unfold admitStreams
    split
    · exact ih ‹_›
    · exact ih h

/-- The foreground places go by stream and requested class alone. -/
theorem foregroundOrder_map {g : Subscription → Subscription}
    (h : ∀ e, (g e).stream = e.stream ∧ (g e).requested = e.requested) (t : List Subscription) :
    foregroundOrder (t.map g) = foregroundOrder t := by
  unfold foregroundOrder
  rw [List.foldl_map]
  simp only [h]

/-- The table that a class review of `t` under map `m` gives. -/
def reviewedTable (m : MuxMap) (t : List Subscription) : List Subscription :=
  t.map (fun e => { e with effective := effectiveOf (admitStreams m 0 (foregroundOrder t)).1 e })

theorem classesReviewed_iff (s : State) :
    ClassesReviewed s ↔ reviewedTable s.maps.current s.sub.table = s.sub.table ∧
      (admitStreams s.maps.current 0 (foregroundOrder s.sub.table)).2 = s.sub.foregroundLoad := by
  refine ⟨fun h => ⟨congrArg (·.sub.table) h, congrArg (·.sub.foregroundLoad) h⟩, fun ⟨ht, hl⟩ => ?_⟩
  show { s with sub := { s.sub with table := reviewedTable s.maps.current s.sub.table, foregroundLoad := _ } } = s
  rw [ht, hl]

theorem ClassesReviewed.load {s : State} (h : ClassesReviewed s) : s.sub.foregroundLoad ≤ loadLimit := by
  rw [← ((classesReviewed_iff s).1 h).2]
  exact admitStreams_le (Nat.zero_le _) _

theorem ClassesReviewed.congr {a b : State} (h : ClassesReviewed a) (ht : b.sub.table = a.sub.table)
    (hl : b.sub.foregroundLoad = a.sub.foregroundLoad) (he : SameLoads a.maps.current b.maps.current) :
    ClassesReviewed b := by
  rw [classesReviewed_iff] at h ⊢
  rw [reviewedTable] at h ⊢
  rw [ht, hl, admitStreams_congr he]
  exact h

theorem foregroundOrder_reviewedTable (m : MuxMap) (t : List Subscription) :
    foregroundOrder (reviewedTable m t) = foregroundOrder t := by
  refine foregroundOrder_map ?_ t
  exact fun _ => ⟨rfl, rfl⟩

theorem table_classReview (s : State) : (classReview s).sub.table = reviewedTable s.maps.current s.sub.table := rfl

theorem reviewedTable_idem (m : MuxMap) (t : List Subscription) :
    reviewedTable m (reviewedTable m t) = reviewedTable m t := by
  rw [reviewedTable, foregroundOrder_reviewedTable, reviewedTable, List.map_map]
  rfl

/-- A class review leaves the classes reviewed. -/
theorem reviewed_classReview (s : State) : ClassesReviewed (classReview s) := by
  rw [classesReviewed_iff, table_classReview, foregroundOrder_reviewedTable]
  exact ⟨reviewedTable_idem _ _, rfl⟩

/-! ### Claim lists -/

theorem mem_insertId {x y : StreamId} {l : List StreamId} : y ∈ insertId x l ↔ y = x ∨ y ∈ l := by
  induction l with
  | nil => simp [insertId]
  | cons z zs ih =>
    unfold insertId
    split
    · simp
    · split
      · simp_all
      · simp [ih, or_left_comm]

theorem insertId_sorted {l : List StreamId} (h : l.Pairwise (· < ·)) (x : StreamId) : (insertId x l).Pairwise (· < ·) := by
  induction l with
  | nil => exact List.pairwise_singleton _ _
  | cons z zs ih =>
    obtain ⟨hz, hzs⟩ := List.pairwise_cons.1 h
    unfold insertId
    split
    · rename_i hlt
      exact .cons (List.forall_mem_cons.2 ⟨hlt, fun y hy => lt_trans hlt (hz y hy)⟩) h
    · rename_i hge
      split
      · exact h
      · rename_i hne
        refine .cons (fun y hy => ?_) (ih hzs)
        rcases mem_insertId.1 hy with rfl | hy
        · exact lt_of_le_of_ne (not_lt.1 hge) (Ne.symm hne)
        · exact hz y hy

theorem sublist_insertId (x : StreamId) (l : List StreamId) : l.Sublist (insertId x l) := by
  induction l with
  | nil => exact List.nil_sublist _
  | cons z zs ih =>
    unfold insertId
    split
    · exact List.sublist_cons_self _ _
    · split
      · exact .refl _
      · exact ih.cons_cons _

theorem grainSum_cons (s : State) (x : StreamId) (xs : List StreamId) :
    grainSum s (x :: xs) = s.maps.current.grainsOf x + grainSum s xs := by
  simp [grainSum]

theorem grainSum_reverse (s : State) (xs : List StreamId) : grainSum s xs.reverse = grainSum s xs := by
  simp [grainSum, List.map_reverse, List.sum_reverse]

theorem grainSum_insertId (s : State) {x : StreamId} {l : List StreamId} (h : x ∉ l) :
    grainSum s (insertId x l) = s.maps.current.grainsOf x + grainSum s l := by
  induction l with
  | nil => simp [insertId, grainSum]
  | cons z zs ih =>
    obtain ⟨hxz, hzs⟩ := List.ne_and_not_mem_of_not_mem_cons h
    unfold insertId
    split
    · exact grainSum_cons s x _
    · rw [grainSum_cons, grainSum_cons, ih hzs]
      omega

theorem grainSum_mono (s : State) {l m : List StreamId} (h : l.Sublist m) : grainSum s l ≤ grainSum s m :=
  List.Sublist.sum_le_sum (h.map _) (fun _ _ => Nat.zero_le _)

/-- Step 2 of a claim review drops streams from the head of the list, which is in descending stream id (R148). -/
theorem shrinkClaims_suffix (s : State) (l : List StreamId) : shrinkClaims s l <:+ l := by
  induction l with
  | nil => exact List.suffix_rfl
  | cons x xs ih =>
    unfold shrinkClaims
    split
    · exact ih.trans (List.suffix_cons x xs)
    · exact List.suffix_rfl

theorem shrinkClaims_load {s : State} (h : s.sub.foregroundLoad ≤ loadLimit) (l : List StreamId) :
    s.sub.foregroundLoad + grainSum s (shrinkClaims s l) ≤ loadLimit := by
  induction l with
  | nil => exact h
  | cons x xs ih =>
    unfold shrinkClaims
    split
    · exact ih
    · rename_i hle
      exact not_lt.1 hle

theorem shrinkClaims_of_fit {s : State} {l : List StreamId} (h : s.sub.foregroundLoad + grainSum s l ≤ loadLimit) :
    shrinkClaims s l = l := by
  cases l with
  | nil => rfl
  | cons x xs =>
    unfold shrinkClaims
    rw [if_neg (not_lt.2 h)]

theorem mem_takeClaims {s : State} {xs claims : List StreamId} {spare : Nat} {x : StreamId}
    (h : x ∈ takeClaims s xs claims spare) : x ∈ claims ∨ x ∈ xs := by
  induction xs generalizing claims spare with
  | nil => exact .inl h
  | cons y ys ih =>
    unfold takeClaims at h
    split at h
    · rcases ih h with hx | hx
      · rcases mem_insertId.1 hx with rfl | hx
        · exact .inr (List.mem_cons_self ..)
        · exact .inl hx
      · exact .inr (List.mem_cons_of_mem _ hx)
    · exact (ih h).imp_right (List.mem_cons_of_mem _)

theorem sublist_takeClaims (s : State) (xs claims : List StreamId) (spare : Nat) :
    claims.Sublist (takeClaims s xs claims spare) := by
  induction xs generalizing claims spare with
  | nil => exact .refl _
  | cons y ys ih =>
    unfold takeClaims
    split
    · exact (sublist_insertId y claims).trans (ih _ _)
    · exact ih _ _

theorem takeClaims_sorted {s : State} {claims : List StreamId} (h : claims.Pairwise (· < ·)) (xs : List StreamId) (spare : Nat) :
    (takeClaims s xs claims spare).Pairwise (· < ·) := by
  induction xs generalizing claims spare with
  | nil => exact h
  | cons y ys ih =>
    unfold takeClaims
    split
    · exact ih (insertId_sorted h y) _
    · exact ih h _

/-- Step 3 of a claim review fills the spare capacity and no more, and leaves out no candidate that fits in what is left
of it (R148). -/
theorem takeClaims_load {s : State} {xs claims : List StreamId} {spare : Nat} (hn : xs.Nodup)
    (hd : ∀ x ∈ xs, x ∉ claims) :
    grainSum s (takeClaims s xs claims spare) ≤ grainSum s claims + spare ∧
    ∀ x ∈ xs, x ∉ takeClaims s xs claims spare →
      grainSum s claims + spare < grainSum s (takeClaims s xs claims spare) + s.maps.current.grainsOf x := by
  induction xs generalizing claims spare with
  | nil => exact ⟨Nat.le_add_right _ _, fun _ hx => by cases hx⟩
  | cons y ys ih =>
    obtain ⟨hy, hn⟩ := List.nodup_cons.1 hn
    obtain ⟨hyc, hd⟩ := List.forall_mem_cons.1 hd
    unfold takeClaims
    split
    · rename_i hle
      have hd' : ∀ x ∈ ys, x ∉ insertId y claims := fun x hx hm =>
        (mem_insertId.1 hm).elim (fun e => hy (e ▸ hx)) (hd x hx)
      obtain ⟨h1, h2⟩ := ih (spare := spare - s.maps.current.grainsOf y) hn hd'
      rw [grainSum_insertId s hyc] at h1 h2
      refine ⟨by omega, fun x hx hout => ?_⟩
      rcases List.mem_cons.1 hx with rfl | hx
      · exact absurd ((sublist_takeClaims s ys _ _).subset (mem_insertId.2 (.inl rfl))) hout
      · have := h2 x hx hout
        omega
    · rename_i hgt
      obtain ⟨h1, h2⟩ := ih (spare := spare) hn hd
      refine ⟨h1, fun x hx hout => ?_⟩
      rcases List.mem_cons.1 hx with rfl | hx
      · have := grainSum_mono s (sublist_takeClaims s ys claims spare)
        omega
      · exact h2 x hx hout

/-- The claims that steps 1 and 2 of a claim review keep (R148). -/
def keptClaims (s : State) : List StreamId := (shrinkClaims s (s.sub.claims.filter (eligible s)).reverse).reverse

/-- The streams that step 3 may take. -/
def claimCandidates (s : State) : List StreamId :=
  (List.finRange 64).filter (fun x => eligible s x && !(keptClaims s).contains x && !peerClaims s x)

theorem reviewedClaims_eq (s : State) :
    reviewedClaims s =
      takeClaims s (claimCandidates s) (keptClaims s) (loadLimit - s.sub.foregroundLoad - grainSum s (keptClaims s)) := rfl

theorem keptClaims_sublist (s : State) : (keptClaims s).Sublist (s.sub.claims.filter (eligible s)) := by
  have h := (shrinkClaims_suffix s (s.sub.claims.filter (eligible s)).reverse).sublist.reverse
  rwa [List.reverse_reverse] at h

theorem mem_claimCandidates {s : State} {x : StreamId} :
    x ∈ claimCandidates s ↔ eligible s x = true ∧ x ∉ keptClaims s ∧ peerClaims s x = false := by
  simp [claimCandidates, and_assoc]

theorem nodup_claimCandidates (s : State) : (claimCandidates s).Nodup := (List.nodup_finRange 64).filter _

/-- What a claim review leaves (R147, R148). -/
theorem claimsTaken_setClaims {s : State} (hf : s.sub.foregroundLoad ≤ loadLimit) :
    ClaimsTaken s (setClaims s (reviewedClaims s)) := by
  have hkept : s.sub.foregroundLoad + grainSum s (keptClaims s) ≤ loadLimit := by
    rw [keptClaims, grainSum_reverse]
    exact shrinkClaims_load hf _
  obtain ⟨hload, hfull⟩ := takeClaims_load (s := s) (claims := keptClaims s)
    (spare := loadLimit - s.sub.foregroundLoad - grainSum s (keptClaims s)) (nodup_claimCandidates s)
    (fun x hx => (mem_claimCandidates.1 hx).2.1)
  rw [← reviewedClaims_eq] at hload hfull
  have hsub : keptClaims s ⊆ reviewedClaims s := (sublist_takeClaims ..).subset
  refine ⟨fun x hx => ?_, rfl, rfl, fun _ => ?_, fun hfit x hx he => ?_, fun x he hp hout => ?_⟩
  · rcases mem_takeClaims hx with hx | hx
    · obtain ⟨hc, he⟩ := List.mem_filter.1 ((keptClaims_sublist s).subset hx)
      exact ⟨he, .inl hc⟩
    · obtain ⟨he, -, hp⟩ := mem_claimCandidates.1 hx
      exact ⟨he, .inr hp⟩
  · show s.sub.foregroundLoad + grainSum s (reviewedClaims s) ≤ 480
    have : loadLimit = 480 := rfl
    omega
  · refine hsub ?_
    rw [keptClaims, shrinkClaims_of_fit (by rwa [grainSum_reverse]), List.reverse_reverse]
    exact List.mem_filter.2 ⟨hx, he⟩
  · have hlt := hfull x (mem_claimCandidates.2 ⟨he, fun hk => hout (hsub hk), hp⟩) hout
    show 480 < s.sub.foregroundLoad + grainSum s (reviewedClaims s) + s.maps.current.grainsOf x
    have : loadLimit = 480 := rfl
    omega

theorem reviewedClaims_sorted {s : State} (h : s.sub.claims.Pairwise (· < ·)) : (reviewedClaims s).Pairwise (· < ·) :=
  takeClaims_sorted ((h.filter _).sublist (keptClaims_sublist s)) _ _

/-! ### The laws, as they hold within a command -/

/-- Where claims are held, a claim review may run. -/
def Gated (s : State) : Prop :=
  (claimsAllowed s = true ∧ s.sub.claimsOpen = true) ∨ (s.sub.claims = [] ∧ s.sub.claimLoad = 0)

/-- The laws of the claims but for their settling, which comes last in a command. -/
structure ClaimLaws (s : State) : Prop where
  reviewed : ClassesReviewed s
  gated : Gated s
  sorted : s.sub.claims.Pairwise (· < ·)
  eligible : ∀ x ∈ s.sub.claims, eligible s x = true
  load : s.sub.claimLoad = grainSum s s.sub.claims
  bound : s.sub.foregroundLoad + s.sub.claimLoad ≤ 480

/-- What the laws of the claims read, but for the conditions of R147, is as it was. -/
structure SameClaims (a b : State) : Prop where
  table : b.sub.table = a.sub.table
  foregroundLoad : b.sub.foregroundLoad = a.sub.foregroundLoad
  claims : b.sub.claims = a.sub.claims
  claimLoad : b.sub.claimLoad = a.sub.claimLoad
  claimsOpen : b.sub.claimsOpen = a.sub.claimsOpen
  state : b.maps.current.state = a.maps.current.state
  loads : SameLoads a.maps.current b.maps.current

theorem SameClaims.refl (a : State) : SameClaims a a := ⟨rfl, rfl, rfl, rfl, rfl, rfl, fun _ => rfl⟩

theorem SameClaims.trans {a b c : State} (h : SameClaims a b) (k : SameClaims b c) : SameClaims a c :=
  ⟨k.table.trans h.table, k.foregroundLoad.trans h.foregroundLoad, k.claims.trans h.claims,
    k.claimLoad.trans h.claimLoad, k.claimsOpen.trans h.claimsOpen, k.state.trans h.state, h.loads.trans k.loads⟩

theorem SameClaims.stand {ps : List Part} {a b : State} (h : Within ps a b) (hm : MapsStand a b)
    (ht : Part.table ∉ ps := by decide) (hc : Part.claims ∉ ps := by decide) : SameClaims a b :=
  ⟨h.table ht, h.foregroundLoad ht, h.claims hc, h.claimLoad hc, h.claimsOpen hc, hm.state, .of_entries hm.entries⟩

theorem SameClaims.within {ps : List Part} {a b : State} (h : Within ps a b) (hm : Part.mapUnit ∉ ps := by decide)
    (ht : Part.table ∉ ps := by decide) (hc : Part.claims ∉ ps := by decide) : SameClaims a b :=
  .stand h (.within h hm) ht hc

theorem SameClaims.eligible {a b : State} (h : SameClaims a b) (x : StreamId) : Machine.eligible b x = Machine.eligible a x := by
  simp only [Machine.eligible, inCurrentMap, isForeground, h.table, h.state, h.loads.isSome]

theorem SameClaims.grainSum {a b : State} (h : SameClaims a b) (xs : List StreamId) :
    Machine.grainSum b xs = Machine.grainSum a xs := by
  rw [Machine.grainSum, h.loads.grainsOf]
  rfl

theorem ClaimLaws.regated {a b : State} (h : ClaimLaws a) (hs : SameClaims a b) (hg : Gated b) : ClaimLaws b where
  reviewed := h.reviewed.congr hs.table hs.foregroundLoad hs.loads
  gated := hg
  sorted := hs.claims ▸ h.sorted
  eligible x hx := by
    rw [hs.claims] at hx
    rw [hs.eligible]
    exact h.eligible x hx
  load := by rw [hs.claimLoad, hs.claims, hs.grainSum, h.load]
  bound := by rw [hs.foregroundLoad, hs.claimLoad]; exact h.bound

theorem Gated.congr {a b : State} (h : Gated a) (hc : b.sub.claims = a.sub.claims) (hl : b.sub.claimLoad = a.sub.claimLoad)
    (ho : b.sub.claimsOpen = a.sub.claimsOpen) (ha : claimsAllowed a = true → claimsAllowed b = true) : Gated b := by
  unfold Gated
  rw [hc, hl, ho]
  exact h.imp_left (fun ⟨h1, h2⟩ => ⟨ha h1, h2⟩)

theorem ClaimLaws.congr {a b : State} (h : ClaimLaws a) (hs : SameClaims a b)
    (ha : claimsAllowed a = true → claimsAllowed b = true) : ClaimLaws b :=
  h.regated hs (h.gated.congr hs.claims hs.claimLoad hs.claimsOpen ha)

theorem claimsAllowed_iff (s : State) :
    claimsAllowed s = true ↔ s.mod.mode = .running ∧ s.lnk.state = .joined ∧ (s.ftr.sync = .locked ∨ s.ftr.sync = .holdover) := by
  simp [claimsAllowed, and_assoc]

theorem claimsAllowed_congr {a b : State} (hm : b.mod.mode = a.mod.mode) (hl : b.lnk.state = a.lnk.state)
    (hs : a.ftr.sync = .locked ∨ a.ftr.sync = .holdover → b.ftr.sync = .locked ∨ b.ftr.sync = .holdover)
    (h : claimsAllowed a = true) : claimsAllowed b = true := by
  obtain ⟨h1, h2, h3⟩ := (claimsAllowed_iff a).1 h
  exact (claimsAllowed_iff b).2 ⟨hm.trans h1, hl.trans h2, hs h3⟩

theorem Within.claimsAllowed {ps : List Part} {a b : State} (h : Within ps a b) (ht : Part.tracker ∉ ps := by decide)
    (hl : Part.line ∉ ps := by decide) (hm : Part.mode ∉ ps := by decide) :
    Machine.claimsAllowed b = Machine.claimsAllowed a := by
  rw [Machine.claimsAllowed, h.mode hm, h.linkState hl, h.ftr ht]
  rfl

/-- A change beside tracker, line, mode, table and claims that lets the current map stand keeps the laws. -/
theorem ClaimLaws.stand {ps : List Part} {a b : State} (h : ClaimLaws a) (hw : Within ps a b) (hm : MapsStand a b)
    (ht : Part.table ∉ ps := by decide) (hc : Part.claims ∉ ps := by decide) (hf : Part.tracker ∉ ps := by decide)
    (hl : Part.line ∉ ps := by decide) (hd : Part.mode ∉ ps := by decide) : ClaimLaws b :=
  h.congr (.stand hw hm ht hc) (fun k => by rwa [hw.claimsAllowed hf hl hd])

theorem ClaimLaws.within {ps : List Part} {a b : State} (h : ClaimLaws a) (hw : Within ps a b)
    (hm : Part.mapUnit ∉ ps := by decide) (ht : Part.table ∉ ps := by decide) (hc : Part.claims ∉ ps := by decide)
    (hf : Part.tracker ∉ ps := by decide) (hl : Part.line ∉ ps := by decide) (hd : Part.mode ∉ ps := by decide) :
    ClaimLaws b :=
  h.stand hw (.within hw hm) ht hc hf hl hd

theorem ClaimLaws.noticed {a b : State} (h : ClaimLaws a) (hn : Noticed a b) {ps : List Part} (hw : Within ps a b)
    (ht : Part.table ∉ ps := by decide) (hc : Part.claims ∉ ps := by decide) (hf : Part.tracker ∉ ps := by decide)
    (hl : Part.line ∉ ps := by decide) (hd : Part.mode ∉ ps := by decide) : ClaimLaws b :=
  h.stand hw hn.stand ht hc hf hl hd

/-- At the instant a condition of R147 ceases to hold the claims go, and the laws stand. -/
theorem ClaimLaws.settle {a b : State} (h : ClaimLaws a) (hs : SameClaims a b) : ClaimLaws (settleClaims b) := by
  unfold settleClaims
  split
  · rename_i ha
    exact h.congr hs (fun _ => ha)
  · have hr := h.reviewed.congr hs.table hs.foregroundLoad hs.loads
    exact { reviewed := hr.congr rfl rfl (fun _ => rfl), gated := .inr ⟨rfl, rfl⟩, sorted := .nil,
            eligible := fun _ hx => (List.not_mem_nil hx).elim, load := rfl, bound := hr.load }

theorem claimLaws_of_empty {s : State} (ht : s.sub.table = []) (hf : s.sub.foregroundLoad = 0) (hc : s.sub.claims = [])
    (hl : s.sub.claimLoad = 0) : ClaimLaws s where
  reviewed := by
    rw [classesReviewed_iff, ht, hf]
    exact ⟨rfl, rfl⟩
  gated := .inr ⟨hc, hl⟩
  sorted := hc ▸ .nil
  eligible x hx := by rw [hc] at hx; cases hx
  load := by rw [hc, hl]; rfl
  bound := by rw [hf, hl]; decide

/-! ### Reviews bring the laws about -/

/-- A claim review after a class review brings the laws about, whatever the claims were taken under (R141, R148). -/
theorem claimLaws_claimReview {s : State} (hr : ClassesReviewed s) (hg : Gated s) (hs : s.sub.claims.Pairwise (· < ·)) :
    ClaimLaws (claimReview s) := by
  unfold claimReview
  split
  · rename_i hao
    obtain ⟨ha, ho⟩ : claimsAllowed s = true ∧ s.sub.claimsOpen = true := by simpa using hao
    obtain ⟨hel, -, hld, hle, -, -⟩ := claimsTaken_setClaims hr.load
    exact { reviewed := hr.congr rfl rfl (fun _ => rfl), gated := .inl ⟨ha, ho⟩, sorted := reviewedClaims_sorted hs,
            eligible := fun x hx => (hel x hx).1, load := hld, bound := hle hr.load }
  · rename_i hno
    obtain ⟨hc, hl⟩ := hg.resolve_left (fun ⟨ha, ho⟩ => hno (by rw [ha, ho]; rfl))
    exact { reviewed := hr, gated := .inr ⟨hc, hl⟩, sorted := hs, eligible := fun x hx => (List.not_mem_nil (hc ▸ hx)).elim,
            load := by rw [hl, hc]; rfl, bound := by rw [hl]; exact hr.load }

/-- Claims that a review may take up: those of lawful claims after any change of maps and table. -/
structure Reviewable (s : State) : Prop where
  gated : Gated s
  sorted : s.sub.claims.Pairwise (· < ·)

theorem ClaimLaws.reviewable {s : State} (h : ClaimLaws s) : Reviewable s := ⟨h.gated, h.sorted⟩

theorem Reviewable.within {ps : List Part} {a b : State} (h : Reviewable a) (hw : Within ps a b)
    (hc : Part.claims ∉ ps := by decide) (hf : Part.tracker ∉ ps := by decide) (hl : Part.line ∉ ps := by decide)
    (hd : Part.mode ∉ ps := by decide) : Reviewable b :=
  ⟨h.gated.congr (hw.claims hc) (hw.claimLoad hc) (hw.claimsOpen hc) (fun k => by rwa [hw.claimsAllowed hf hl hd]),
    hw.claims hc ▸ h.sorted⟩

theorem claimLaws_mapChanged {s : State} (h : Reviewable s) : ClaimLaws (mapChanged s) := by
  have hr : ClaimLaws (claimReview (classReview (trimMarks s))) :=
    have hv := (h.within (within_trimMarks s)).within (within_classReview _)
    claimLaws_claimReview (reviewed_classReview _) hv.gated hv.sorted
  exact hr.noticed (noticed_reviewCursors _) (within_reviewCursors _)

/-- What every change to the maps ends with brings the laws about. -/
theorem claimLaws_settleMaps {s : State} (h : Reviewable s) : ClaimLaws (settleMaps s) :=
  ((claimLaws_mapChanged h).stand (within_currentReady _) (stand_currentReady _)).stand (within_nextReady _) (stand_nextReady _)

theorem claimLaws_tableChange {s : State} (h : Reviewable s) (t : List Subscription) : ClaimLaws (tableChange s t) := by
  have hw : Within [.store, .queue, .cursors] (withTable s t)
      ((goneStreams s t).foldl removeCursor ((freshStreams s t).foldl addCursor (withTable s t))) :=
    (within_foldl_addCursor _ _).mono.trans (.foldl within_removeCursor _ _)
  have h0 : Reviewable { s with sub := { s.sub with table := t } } := ⟨h.gated, h.sorted⟩
  have hv := (h0.within (within_classReview _)).within hw
  have hr : ClassesReviewed (withTable s t) := reviewed_classReview _
  rw [tableChange_eq]
  exact claimLaws_claimReview (hr.congr hw.table hw.foregroundLoad (.of_entries (by rw [hw.maps]))) hv.gated hv.sorted

end Sys2Proof.Machine

/-! PROOFS. One dispatch for laws of tracker, link, mode and claims: what keeps a law, command by command. -/

namespace Sys2Proof.Machine

-- one theorem at a time: elaborated side by side, they would hold more threads than the check allows
set_option Elab.async false

/-- Every command but the two of RESET_N runs its own function in the common course. -/
theorem exec_live (c : Instr) (s : State) (hc : isPinReset c = false) :
    ∃ f, exec c s = .next (live c.instant s f) := by
  cases c with
  | pinResetAssert t => cases hc
  | pinResetRelease t straps => cases hc
  | _ => exact ⟨_, rfl⟩

/-- The held part lets every command but the two of RESET_N go by (R174). -/
theorem exec_held {s : State} {c : Instr} (hs : s.held = true) (hc : isPinReset c = false) :
    exec c s = .next (s.clocked c.instant) := by
  obtain ⟨f, hf⟩ := exec_live c s hc
  rw [hf, live_held hs]

theorem live_awake {s : State} {t : Instant} {f : State → State} (h : s.held = false) :
    live t s f = settleClaims (f (s.clocked t)) := by
  have e : live t s f = if s.held = true then s.clocked t else settleClaims (f (s.clocked t)) := rfl
  rw [e, if_neg (by simp [h])]

/-- After a command that the part takes, claims are settled. -/
theorem settled_of_exec {s u : State} {c : Instr} (hs : s.held = false) (hc : isPinReset c = false)
    (h : exec c s = .next u) : Settled u := by
  obtain ⟨f, hf⟩ := exec_live c s hc
  rw [hf, live_awake hs] at h
  cases h
  exact settled_settleClaims _

/-- The parts that the laws of tracker, link, mode, lanes and claims do not read. -/
abbrev quiet : List Part :=
  [.time, .slots, .scheduler, .arrivals, .store, .pageMem, .queue, .peers, .cursors, .releaseList, .counters, .pending]

/-- A law is kept by the operations that the commands are made of, each as the command that uses it finds the part; a
contention, which no other command uses, stands apart. -/
structure Kept (P : State → Prop) : Prop where
  /-- a change that the law does not read -/
  steady : ∀ {a b : State}, Within (.mapUnit :: quiet) a b → MapsStand a b → P a → P b
  settled : ∀ {s}, P s → P (settleClaims s)
  lane : ∀ {s} i l, (laneOf s i).state ≠ .off → P s → P (setLane s i l)
  gone : ∀ {s} i, P s → P (laneGone s i)
  payloadWord : ∀ {s} w, P s → P (takePayloadWord s w)
  controlWord : ∀ {s} w b, P s → P (takeControlWord s w b)
  marker : ∀ {s}, P s → P (markerArrival s)
  control : ∀ {s} x, P s → P (setControl s x)
  absent : ∀ {s}, s.ftr.sync = .locked → P s → P (endReception s)
  window : ∀ {s} m, s.ftr.marker = some m → P s → P (closeWindow s m)
  payloadEnd : ∀ {s}, P s → P (endPayload s)
  lost : ∀ {s}, s.ftr.sync = .holdover → P s → P (enterLost s)
  releases : ∀ {s} x, P s → P (setTracker s { s.ftr with releases := x })
  status : ∀ {s} d t, s.mod.statusTimer = some d → P s → P (setStatusTimer s (some t))
  attempt : ∀ {s} rejected, P s → P (endAttempt s rejected)
  endSlot : ∀ {s} x, P s → P (setEndSlot s x)
  abort : ∀ {s}, P s → P (abortAttempt s)
  duplicate : ∀ {s}, P s → P (duplicateFault s)
  stuck : ∀ {s}, s.lnk.permanent = false → P s →
    P (setLink (enterFault (abortAttempt s) .stuck none) { (enterFault (abortAttempt s) .stuck none).lnk with stuck := true })
  recessive : ∀ {s}, s.lnk.permanent = false → P s →
    P (setLink s { s.lnk with stuck := false, recoveryTimer := some (s.now + recoveryTime) })
  listening : ∀ {s}, s.lnk.state = .fault → s.lnk.permanent = false → P s → P (enterListening s)
  joined : ∀ {s}, s.lnk.state = .listening → P s →
    P (endRestarting (spendMark (setLink s { s.lnk with state := .joined, joinTimer := none })))
  statusHeard : ∀ {s} m, P s → P (hearStatus s m)
  noticeHeard : ∀ {s} n, P s → P (hearNotice s n)
  subscribed : ∀ {s} e, P s → P (applySubscribe s e)
  released : ∀ {s} x c, P s → P (applyRelease s x c)
  changed : ∀ {s} id, P s → P (ensembleChange s id)
  restarted : ∀ {s}, P s → P (restart s)
  quiesced : ∀ {s}, P s → P (quiesce s)
  resumed : ∀ {s}, P s → P (resume s)

theorem keeps_ite {P : State → Prop} {c : Prop} [Decidable c] {a b : State} (ha : c → P a) (hb : ¬c → P b) :
    P (if c then a else b) := by
  split
  · exact ha ‹_›
  · exact hb ‹_›

namespace Kept

variable {P : State → Prop} (k : Kept P)
include k

theorem within {ps : List Part} {a b : State} (hw : Within ps a b) (h : P a)
    (hs : ∀ p ∈ ps, p ∈ quiet := by decide) : P b :=
  k.steady (hw.mono fun p hp => List.mem_cons_of_mem _ (hs p hp))
    (.within hw fun hm => absurd (hs _ hm) (by decide)) h

theorem noticed {ps : List Part} {a b : State} (hw : Within ps a b) (hn : Noticed a b) (h : P a)
    (hs : ∀ p ∈ ps, p ∈ Part.mapUnit :: quiet := by decide) : P b := k.steady (hw.mono hs) hn.stand h

theorem corrupt {s : State} (i : LaneId) (h : P s) : P (corruptWord s i) := by
  unfold corruptWord
  refine keeps_ite (fun _ => h) fun ha => ?_
  have hon : (laneOf s i).state ≠ .off := fun e => ha (by simp [e])
  exact keeps_ite (fun _ => k.gone i (k.lane i _ hon h)) fun _ => k.lane i _ hon h

theorem hear {s : State} (kind : MsgKind) (m : LinkMessage) {owner : State → State} (ho : ∀ {s}, P s → P (owner s))
    (h : P s) : P (hear s kind m owner) := by
  unfold Machine.hear
  refine keeps_ite (fun _ => h) fun _ => keeps_ite (fun _ => k.endSlot _ h) fun _ => keeps_ite
    (fun _ => k.within (within_countControlError _) (k.endSlot _ h)) fun _ => keeps_ite (fun _ => k.duplicate (k.endSlot _ h))
      fun _ => ho (k.endSlot _ h)

theorem receive {s : State} (kind : MsgKind) (m : Incoming) {owner : State → LinkMessage → State}
    (ho : ∀ {s} m, P s → P (owner s m)) (h : P s) : P (receive s kind m owner) := by
  cases m with
  | heard m => exact k.hear kind m (ho m) h
  | own =>
    show P (completeOwn s kind)
    unfold completeOwn
    split
    · rename_i a ha
      refine keeps_ite (fun _ => ?_) fun _ => h
      have e : completeAttempt s a = endAttempt s false := by rw [endAttempt, ha]; rfl
      rw [e]
      exact k.attempt false h
    · exact h

/-- A law kept by the operations is kept by every command's function. -/
theorem function (c : Instr) {s : State} (hc : isPinReset c = false)
    (contend : ∀ t rivals, c = .contention t rivals → ∀ {s}, P s → P (contend s rivals)) :
    ∃ f, exec c s = .next (live c.instant s f) ∧ ∀ s, P s → P (f s) := by
  have hon {s : State} {i : LaneId} {x : LaneState} (h : (laneOf s i).state = x) (hx : x ≠ .off := by decide) :
      (laneOf s i).state ≠ .off := h ▸ hx
  have hal {s : State} {i : LaneId} (h : ¬(laneOf s i).state ≠ .aligned) : (laneOf s i).state ≠ .off :=
    hon (not_not.1 h)
  cases c with
  | pinResetAssert t => cases hc
  | pinResetRelease t straps => cases hc
  | equaliserAutoZero t i pol => exact ⟨_, rfl, fun s h => keeps_ite (fun g => k.lane i _ (hon g.1) h) fun _ => h⟩
  | lockReport t i => exact ⟨_, rfl, fun s h => keeps_ite (fun g => k.lane i _ (hon g.1) h) fun _ => h⟩
  | acquireTimeout t i => exact ⟨_, rfl, fun s h => keeps_ite (fun g => k.lane i _ (hon g.1) h) fun _ => h⟩
  | wordBoundaryFound t i => exact ⟨_, rfl, fun s h => keeps_ite (fun g => k.lane i _ (hon g) h) fun _ => h⟩
  | lossOfLock t i =>
    refine ⟨_, rfl, fun s h => ?_⟩
    dsimp only
    split
    · exact k.gone i (k.lane i _ (hon ‹_›) h)
    · exact k.lane i _ (hon ‹_›) h
    · exact h
    · exact h
  | oneShotTuneEnd t i => exact ⟨_, rfl, fun s h => keeps_ite (fun g => k.lane i _ (hon g.1) h) fun _ => h⟩
  | cellWord t i a w b =>
    refine ⟨_, rfl, fun s h => keeps_ite (fun _ => h) fun g => ?_⟩
    have h1 := k.lane i (countWord (laneOf s i)) (hal g) h
    refine keeps_ite (fun _ => h1) fun _ => ?_
    split
    · exact k.payloadWord w h1
    · exact keeps_ite (fun _ => k.controlWord w b h1) fun _ => h1
  | frameStartMarker t i =>
    refine ⟨_, rfl, fun s h => keeps_ite (fun _ => h) fun g => ?_⟩
    have h1 := k.lane i (goodWord (laneOf s i)) (hal g) h
    exact keeps_ite (fun _ => k.marker h1) fun _ => k.control _ h1
  | frontEndStatus t i present q =>
    refine ⟨_, rfl, fun s h => keeps_ite (fun _ => h) fun g => ?_⟩
    have h1 := k.lane i { goodWord (laneOf s i) with quality := q } (hal g) h
    exact keeps_ite (fun e => k.absent e.2.2 h1) fun _ => h1
  | idle t i => exact ⟨_, rfl, fun s h => keeps_ite (fun _ => h) fun g => k.lane i _ (hal g) h⟩
  | corruptControlWord t i => exact ⟨_, rfl, fun s h => k.corrupt i h⟩
  | fourthCorruptControlWord t i => exact ⟨_, rfl, fun s h => k.corrupt i h⟩
  | markerWindowClose t =>
    refine ⟨_, rfl, fun s h => ?_⟩
    split
    · exact keeps_ite (fun _ => k.window _ ‹_› h) fun _ => h
    · exact h
  | flywheelPayloadEnd t =>
    refine ⟨_, rfl, fun s h => ?_⟩
    split
    · exact keeps_ite (fun _ => k.payloadEnd h) fun _ => h
    · exact h
  | entryToLost t =>
    refine ⟨_, rfl, fun s h => ?_⟩
    split
    · exact keeps_ite (fun g => k.lost g.1 h) fun _ => h
    · exact h
  | releaseInstant t f =>
    refine ⟨_, rfl, fun s h => ?_⟩
    split
    · exact k.within (within_releaseEvent _ _ _) (k.releases _ h)
    · exact h
  | contextMoveComplete t e => exact ⟨_, rfl, fun s h => k.within (within_completeMove s e) h⟩
  | decodeEnd t e found =>
    exact ⟨_, rfl, fun s h => k.steady (within_endDecoding s e found).mono (stand_endDecoding s e found) h⟩
  | offerInstant t x f =>
    refine ⟨_, rfl, fun s h => ?_⟩
    split
    · exact keeps_ite (fun _ => k.noticed (within_handOver s _) (noticed_handOver s _) h) fun _ => h
    · exact h
  | discardInstant t x f =>
    refine ⟨_, rfl, fun s h => ?_⟩
    split
    · exact keeps_ite (fun _ => k.within (within_freeRecord s x f) h) fun _ => h
    · exact h
  | statusTimer t =>
    refine ⟨_, rfl, fun s h => keeps_ite (fun g => ?_) fun _ => h⟩
    cases ht : s.mod.statusTimer with
    | none =>
      rw [ht] at g
      cases g
    | some d => exact k.noticed (within_cadencePoint _) (noticed_cadencePoint _) (k.status d _ ht h)
  | noticeHoldOff t =>
    refine ⟨_, rfl, fun s h => keeps_ite (fun _ => ?_) fun _ => h⟩
    have hm : Noticed s (setMaps s { s.maps with holdOff := none }) := rfl
    exact k.noticed (ps := [.store, .queue, .counters, .mapUnit]) ((within_setMaps s _).mono.trans (within_testNotice _))
      (hm.trans (noticed_testNotice _)) h
  | deadline t x =>
    refine ⟨_, rfl, fun s h => ?_⟩
    split
    · split
      · exact keeps_ite (fun _ => k.noticed (within_expireDeadline s x _) (noticed_expireDeadline s x _) h) fun _ => h
      · exact h
    · exact h
  | contention t rivals => exact ⟨_, rfl, fun s h => contend t rivals rfl h⟩
  | attemptEnd t rejected => exact ⟨_, rfl, fun s h => k.attempt rejected h⟩
  | reject t start bits => exact ⟨_, rfl, fun s h => keeps_ite (fun _ => h) fun _ => k.endSlot _ h⟩
  | duplicateEvent t how =>
    refine ⟨_, rfl, fun s h => ?_⟩
    split
    · exact keeps_ite (fun _ => k.duplicate (k.abort h)) fun _ => h
    · exact k.duplicate h
  | lineStuck t =>
    exact ⟨_, rfl, fun s h => keeps_ite (fun _ => h) fun g => k.stuck (by simpa using fun e => g (.inr e)) h⟩
  | lineGoesRecessive t => exact ⟨_, rfl, fun s h => keeps_ite (fun g => k.recessive (by simpa using g.2.2) h) fun _ => h⟩
  | recoveryTimer t => exact ⟨_, rfl, fun s h => keeps_ite (fun g => k.listening g.1 (by simpa using g.2.1) h) fun _ => h⟩
  | joinTimer t => exact ⟨_, rfl, fun s h => keeps_ite (fun g => k.joined g.1 h) fun _ => h⟩
  | peerAging t p => exact ⟨_, rfl, fun s h => keeps_ite (fun _ => k.within (within_setPeer s p _) h) fun _ => h⟩
  | parcel t m =>
    exact ⟨_, rfl, fun s h => k.receive _ m (fun _ h => k.noticed (within_resolve _ _ _ _) (noticed_resolve _ _ _ _) h) h⟩
  | gap t m =>
    exact ⟨_, rfl, fun s h => k.receive _ m (fun _ h => k.noticed (within_resolve _ _ _ _) (noticed_resolve _ _ _ _) h) h⟩
  | status t m => exact ⟨_, rfl, fun s h => k.receive _ m (fun m h => k.statusHeard m h) h⟩
  | map t m => exact ⟨_, rfl, fun s h => k.receive _ m (fun m h => k.noticeHeard _ h) h⟩
  | trace t m => exact ⟨_, rfl, fun s h => k.receive _ m (fun _ h => h) h⟩
  | drained t m => exact ⟨_, rfl, fun s h => k.receive _ m (fun _ h => h) h⟩
  | quiesced t m => exact ⟨_, rfl, fun s h => k.receive _ m (fun _ h => h) h⟩
  | subscribe t m => exact ⟨_, rfl, fun s h => k.hear _ m (fun h => k.subscribed _ h) h⟩
  | release t m => exact ⟨_, rfl, fun s h => k.hear _ m (fun h => k.released _ _ h) h⟩
  | ensembleChange t m => exact ⟨_, rfl, fun s h => k.hear _ m (fun h => k.changed _ h) h⟩
  | restart t m => exact ⟨_, rfl, fun s h => k.hear _ m (fun h => keeps_ite (fun _ => k.restarted h) fun _ => h) h⟩
  | quiesce t m => exact ⟨_, rfl, fun s h => k.hear _ m (fun h => keeps_ite (fun _ => k.quiesced h) fun _ => h) h⟩
  | resume t m => exact ⟨_, rfl, fun s h => k.hear _ m (fun h => keeps_ite (fun _ => k.resumed h) fun _ => h) h⟩
  | unknownKindMessage t code m =>
    exact ⟨_, rfl, fun s h => keeps_ite (fun _ => h) fun _ => keeps_ite (fun _ => k.endSlot _ h) fun _ =>
      k.within (within_countControlError _) (k.endSlot _ h)⟩

/-- A law kept by the operations is kept by every command but the two of RESET_N. -/
theorem exec {c : Instr} {s u : State} (hc : isPinReset c = false)
    (contend : ∀ t rivals, c = .contention t rivals → ∀ {s}, P s → P (contend s rivals)) (h : Machine.exec c s = .next u) (hs : P s) : P u := by
  have hclock : P (s.clocked c.instant) := k.within (within_clocked s _) hs
  cases hh : s.held with
  | true =>
    rw [exec_held hh hc] at h
    cases h
    exact hclock
  | false =>
    obtain ⟨f, hf, hP⟩ := k.function c hc contend
    rw [hf, live_awake hh] at h
    cases h
    exact k.settled (hP _ hclock)

/-- A law kept by the operations, that holds of the part held and of the part after pin reset, is kept by every step. -/
theorem step (contend : ∀ {s} rivals, P s → P (contend s rivals)) (held : ∀ s now, P (heldState s now)) (reset : ∀ now straps pending, P (State.afterPinReset now straps pending))
    {s u : State} (hs : P s) (h : Machine.step s = .next u) : P u := by
  unfold Machine.step at h
  split at h
  · cases h
    exact hs
  · rename_i c rest _
    by_cases hc : isPinReset c = true
    · cases c with
      | pinResetAssert t => cases h; exact held _ _
      | pinResetRelease t straps => cases h; exact reset _ _ _
      | _ => cases hc
    · have hw : Within [.pending] s { s with pending := rest } := fun p hp => by
        cases p <;> first | exact absurd (by decide) hp | simp [sameIn]
      exact k.exec (by simpa using hc) (fun _ rivals _ => contend rivals) h (k.within hw hs)

end Kept

end Sys2Proof.Machine

/-! PROOFS. O57: every operation keeps the laws of the claims. -/

namespace Sys2Proof.Machine

-- one theorem at a time: elaborated side by side, they would hold more threads than the check allows
set_option Elab.async false

/-! ### Entries put in a map -/

/-- Looking a stream up after an entry has been put finds that entry for its own stream, and what was there otherwise. -/
theorem find?_putEntry (e : MapEntry) (l : List MapEntry) (y : StreamId) :
    (putEntry e l).find? (fun x => x.id == y) = if y = e.id then some e else l.find? (fun x => x.id == y) := by
  have head (l : List MapEntry) :
      (e :: l).find? (fun x => x.id == y) = if y = e.id then some e else l.find? (fun x => x.id == y) := by
    by_cases hy : e.id = y
    · simp [hy]
    · simp [hy, Ne.symm hy]
  induction l with
  | nil => exact head []
  | cons x xs ih =>
    unfold putEntry
    split
    · exact head (x :: xs)
    split
    · rename_i hx
      rw [head]
      by_cases hy : y = e.id
      · rw [if_pos hy, if_pos hy]
      · rw [if_neg hy, if_neg hy, List.find?_cons_of_neg (by simpa [← hx] using Ne.symm hy)]
    · rename_i hx
      by_cases hy : x.id = y
      · have hne : y ≠ e.id := fun h => hx (h ▸ hy).symm
        rw [List.find?_cons_of_pos (by simp [hy]), List.find?_cons_of_pos (by simp [hy]), if_neg hne]
      · rw [List.find?_cons_of_neg (by simp [hy]), List.find?_cons_of_neg (by simp [hy]), ih]

theorem entryOf_completed (m : MuxMap) : (completed m).entries = m.entries := by
  unfold completed
  split <;> rfl

theorem entries_ownConfirmed (m : MuxMap) : (ownConfirmed m).entries = m.entries := by
  unfold ownConfirmed
  split <;> rfl

theorem sameEntry_grains {a b : MapEntry} (h : sameEntry a b = true) : a.grains = b.grains ∧ a.id = b.id := by
  have h := beq_iff_eq.1 h
  exact ⟨(congrArg MapEntry.grains h :), (congrArg MapEntry.id h :)⟩

/-- An entry put over one with the same fields changes no load. -/
theorem sameLoads_putEntry {m n : MuxMap} {e x : MapEntry} (hx : m.entryOf e.id = some x) (hg : x.grains = e.grains)
    (hn : n.entries = putEntry e m.entries) : SameLoads m n := by
  intro y
  show (n.entries.find? _).map _ = _
  rw [hn, find?_putEntry]
  split
  · rename_i hy
    rw [hy, hx]
    exact congrArg some hg.symm
  · rfl

/-- A STREAM record that calls for no notice changes no load and no state. -/
theorem sameLoads_applyRecord {m : MuxMap} {e : MapEntry} (h : noticeDue m (applyRecord m e) = false) :
    SameLoads m (applyRecord m e).map ∧ (applyRecord m e).map.state = m.state := by
  simp only [noticeDue, Bool.or_eq_false_iff, bne_eq_false_iff_eq] at h
  obtain ⟨⟨hc, hs⟩, -⟩ := h
  refine ⟨?_, hs⟩
  unfold applyRecord at hc ⊢
  cases hm : m.state with
  | none => exact fun _ => rfl
  | assembling =>
    rw [hm] at hc
    simp only at hc ⊢
    unfold applyToAssembling at hc ⊢
    split
    · exact fun _ => rfl
    · rw [if_neg ‹_›] at hc
      have hc : changesContent m e = false := hc
      unfold changesContent at hc
      split at hc
      · rename_i x hx
        have hg := (sameEntry_grains (by simpa using hc)).1
        exact sameLoads_putEntry (e := { e with own := true }) hx hg (entryOf_completed _)
      · cases hc
  | complete =>
    simp only
    unfold applyToComplete
    split <;> exact fun _ => rfl
  | adopted =>
    rw [hm] at hc
    simp only at hc ⊢
    unfold applyToAdopted at hc ⊢
    split
    · rename_i x hx
      rw [hx] at hc
      simp only at hc
      split
      · have hid := (sameEntry_grains ‹_›).2
        have hx' (h : x.id = e.id) : m.entryOf ({ x with own := true } : MapEntry).id = some x := by
          show m.entryOf x.id = some x
          rw [h, hx]
        exact sameLoads_putEntry (e := { x with own := true }) (hx' hid) rfl (entries_ownConfirmed _)
      · rw [if_neg ‹_›] at hc
        split
        · exact fun _ => rfl
        · rw [if_neg ‹_›] at hc
          cases hc
    · rename_i hx
      rw [hx] at hc
      simp only at hc
      split at hc <;> cases hc

/-! ### Map unit -/

theorem claimLaws_confirm {s : State} (h : Reviewable s) : ClaimLaws (confirm s) :=
  claimLaws_settleMaps (((h.within (within_setMaps s _)).within (within_confirmJobs _)).within (within_confirmRecords _))

theorem claimLaws_backOut {s : State} (h : Reviewable s) (how : Settlement) : ClaimLaws (backOut s how) := by
  unfold backOut
  split
  · exact claimLaws_settleMaps (((h.within (within_undoSpeculation s _)).within (within_setMaps _ _)).within
      (within_recreateFrom _ _))
  · exact claimLaws_settleMaps (h.within (within_setNext s _))

theorem claimLaws_setCurrent {s : State} (h : ClaimLaws s) (m : MuxMap) : ClaimLaws (settleMaps (setCurrent s m)) :=
  claimLaws_settleMaps (h.reviewable.within (within_setCurrent s m))

theorem claimLaws_setNext {s : State} (h : ClaimLaws s) (m : MuxMap) : ClaimLaws (settleMaps (setNext s m)) :=
  claimLaws_settleMaps (h.reviewable.within (within_setNext s m))

theorem claimLaws_countControlError {s : State} (h : ClaimLaws s) : ClaimLaws (countControlError s) :=
  h.within (within_countControlError s)

theorem claimLaws_weighRecord {s : State} (h : ClaimLaws s) (r : FrameRecord) : ClaimLaws (weighRecord s r) :=
  keeps_ite (fun _ => keeps_ite (fun _ => claimLaws_confirm h.reviewable) fun _ =>
    keeps_ite (fun _ => claimLaws_backOut h.reviewable _) fun _ => claimLaws_backOut h.reviewable _) fun _ => h

theorem claimLaws_weighStatus {s : State} (h : ClaimLaws s) (p : Peer) : ClaimLaws (weighStatus s p) :=
  keeps_ite (fun _ => keeps_ite (fun _ => claimLaws_confirm h.reviewable) fun _ =>
    keeps_ite (fun _ => keeps_ite (fun _ => claimLaws_backOut h.reviewable _) fun _ => claimLaws_backOut h.reviewable _)
      fun _ => h) fun _ => h

theorem claimLaws_takeCurrentFields {s : State} (h : ClaimLaws s) (r : FrameRecord) :
    ClaimLaws (takeCurrentFields s r).1 := by
  unfold takeCurrentFields
  dsimp only
  split
  · exact claimLaws_setCurrent h _
  split
  · split
    · exact h
    · split
      · exact claimLaws_countControlError h
      · exact claimLaws_setCurrent h _
  · split
    · exact claimLaws_countControlError h
    · exact claimLaws_setCurrent h _

theorem claimLaws_renewNext {s : State} (h : ClaimLaws s) (m : MuxMap) : ClaimLaws (renewNext s m) :=
  claimLaws_setNext (keeps_ite (fun _ => claimLaws_backOut h.reviewable _) fun _ => h) m

theorem claimLaws_takePendingFields {s : State} (h : ClaimLaws s) (r : FrameRecord) :
    ClaimLaws (takePendingFields s r) := by
  unfold takePendingFields
  dsimp only
  split
  · split
    · exact claimLaws_setNext h _
    split
    · split
      · exact keeps_ite (fun _ => h) fun _ => keeps_ite (fun _ => claimLaws_countControlError h) fun _ =>
          claimLaws_setNext h _
      · exact keeps_ite (fun _ => claimLaws_backOut h.reviewable _) fun _ => claimLaws_setNext h _
    · exact claimLaws_renewNext h _
  · exact keeps_ite (fun _ => h) fun _ => claimLaws_backOut h.reviewable _

theorem claimLaws_mapFrameRecord {s : State} (h : ClaimLaws s) (r : FrameRecord) : ClaimLaws (mapFrameRecord s r) := by
  have ht := claimLaws_takeCurrentFields (claimLaws_weighRecord h r) r
  exact keeps_ite (fun _ => claimLaws_takePendingFields ht r) fun _ => ht

theorem claimLaws_mapStreamRecord {s : State} (h : ClaimLaws s) (tag : ChangeCount) (raw : RawEntry) :
    ClaimLaws (mapStreamRecord s tag raw) := by
  have herr (r : RecordResult) : ClaimLaws (if r.error then countControlError s else s) :=
    keeps_ite (fun _ => claimLaws_countControlError h) fun _ => h
  have hmaps (r : RecordResult) : (if r.error then countControlError s else s).maps = s.maps := by split <;> rfl
  unfold mapStreamRecord
  dsimp only
  split
  · generalize hr : applyRecord s.maps.current (entryOfRaw raw true) = r
    unfold settleIf
    split
    · exact claimLaws_setCurrent (herr r) r.map
    · rename_i hdue
      obtain ⟨hl, hs⟩ := sameLoads_applyRecord (m := s.maps.current) (e := entryOfRaw raw true) (by rw [hr]; simpa using hdue)
      rw [hr] at hl hs
      refine (herr r).congr ⟨rfl, rfl, rfl, rfl, rfl, ?_, ?_⟩ id
      · rw [hmaps]
        exact hs
      · rw [hmaps]
        exact hl
  · split
    · split
      · exact claimLaws_backOut (herr _).reviewable _
      · unfold settleIf
        split
        · exact claimLaws_setNext (herr _) _
        · exact (herr _).congr ⟨rfl, rfl, rfl, rfl, rfl, rfl, fun _ => rfl⟩ id
    · exact h

theorem claimLaws_adoptNext {s : State} (h : ClaimLaws s) (n : MapNotice) (c : FrameCount) : ClaimLaws (adoptNext s n c) :=
  keeps_ite (fun _ => keeps_ite (fun _ => claimLaws_backOut h.reviewable _) fun _ => claimLaws_setNext h _) fun _ => h

theorem claimLaws_adoptCurrent {s : State} (h : ClaimLaws s) (n : MapNotice) : ClaimLaws (adoptCurrent s n) :=
  keeps_ite (fun _ => keeps_ite (fun _ => claimLaws_backOut (h.reviewable.within (within_setCurrent s _)) _) fun _ =>
    claimLaws_setCurrent h _) fun _ => h

theorem claimLaws_hearNotice {s : State} (h : ClaimLaws s) (n : MapNotice) : ClaimLaws (hearNotice s n) := by
  unfold hearNotice
  refine keeps_ite (fun _ => claimLaws_countControlError h) fun _ => keeps_ite (fun _ => h) fun _ =>
    keeps_ite (fun _ => keeps_ite (fun _ => h) fun _ => ?_) fun _ =>
      keeps_ite (fun _ => claimLaws_adoptNext h n _) fun _ => claimLaws_adoptCurrent h n
  split
  · exact claimLaws_adoptNext h n _
  · exact h

theorem claimLaws_setMaps {s : State} (h : ClaimLaws s) {u : MapUnit} (hc : u.current = s.maps.current) :
    ClaimLaws (setMaps s u) :=
  h.congr ⟨rfl, rfl, rfl, rfl, rfl, congrArg MuxMap.state hc, .of_entries (congrArg MuxMap.entries hc)⟩ id

/-! ### Frame time -/

/-- The sync states of R147. -/
def Timed (x : SyncState) : Prop := x = .locked ∨ x = .holdover

theorem claimLaws_setTracker {s : State} (h : ClaimLaws s) {x : Tracker} (hx : Timed s.ftr.sync → Timed x.sync) :
    ClaimLaws (setTracker s x) :=
  h.congr (.within (within_setTracker s x)) (claimsAllowed_congr rfl rfl hx)

theorem claimLaws_failTrial {s : State} (h : ClaimLaws s) (f : Frame) : ClaimLaws (failTrial s f) := claimLaws_setTracker h id

theorem claimLaws_failIfUnnamed {s : State} (h : ClaimLaws s) : ClaimLaws (failIfUnnamed s) := by
  unfold failIfUnnamed
  split
  · exact keeps_ite (fun _ => claimLaws_failTrial h _) fun _ => h
  · exact h

theorem claimLaws_setFrame {s : State} (h : ClaimLaws s) (f : Frame) : ClaimLaws (setFrame s f) := claimLaws_setTracker h id

theorem claimLaws_setControl {s : State} (h : ClaimLaws s) (c : ControlPath) : ClaimLaws (setControl s c) :=
  claimLaws_setTracker h id
theorem claimLaws_setMarker {s : State} (h : ClaimLaws s) (t : Instant) : ClaimLaws (setMarker s t) := claimLaws_setTracker h id
theorem claimLaws_advanceCount {s : State} (h : ClaimLaws s) : ClaimLaws (advanceCount s) := claimLaws_setTracker h id
theorem claimLaws_noteStart {s : State} (h : ClaimLaws s) : ClaimLaws (noteStart s) := claimLaws_setTracker h id
theorem claimLaws_measureOffset {s : State} (h : ClaimLaws s) (f : Frame) : ClaimLaws (measureOffset s f) :=
  claimLaws_setTracker h id
theorem claimLaws_countFlywheel {s : State} (h : ClaimLaws s) : ClaimLaws (countFlywheel s) :=
  claimLaws_setTracker h fun _ => .inr rfl
theorem claimLaws_nameFrame {s : State} (h : ClaimLaws s) (r : FrameRecord) : ClaimLaws (nameFrame s r) :=
  claimLaws_setTracker h fun _ => .inl rfl
theorem claimLaws_adoptCount {s : State} (h : ClaimLaws s) (g : FrameCount) : ClaimLaws (adoptCount s g) :=
  claimLaws_setTracker h fun _ => .inl rfl

theorem claimLaws_endControl {s : State} (h : ClaimLaws s) : ClaimLaws (endControl s) := by
  unfold endControl
  split
  · exact h
  · exact keeps_ite (fun _ => h) fun _ => claimLaws_failIfUnnamed (claimLaws_setFrame h _)

theorem claimLaws_issuePayloadEnd {s : State} (h : ClaimLaws s) (received : Bool) : ClaimLaws (issuePayloadEnd s received) := by
  have h1 : ClaimLaws (setIlm s (fileSlot s.ilm s.ftr.count received)) := h.within (within_setIlm s _)
  have h2 : ClaimLaws (setTracker (setIlm s (fileSlot s.ilm s.ftr.count received))
      { s.ftr with releases := s.ftr.releases ++ [(s.ftr.count - 7, s.now + framePeriod)] }) := claimLaws_setTracker h1 id
  exact h2.stand (within_jobsAtPayloadEnd _ _ _) (stand_jobsAtPayloadEnd _ _ _)

theorem claimLaws_endPayload {s : State} (h : ClaimLaws s) : ClaimLaws (endPayload s) := by
  have h1 := claimLaws_failIfUnnamed h
  unfold endPayload
  split
  · exact h
  refine keeps_ite (fun _ => h) fun _ => ?_
  dsimp only
  split
  · exact h1
  · exact keeps_ite (fun _ => claimLaws_issuePayloadEnd (claimLaws_setFrame h1 _) _) fun _ =>
      (claimLaws_setFrame h1 _).within (within_clearFill _)

theorem claimLaws_endFrame {s : State} (h : ClaimLaws s) : ClaimLaws (endFrame s) := claimLaws_endPayload (claimLaws_endControl h)

theorem claimLaws_takePayloadWord {s : State} (h : ClaimLaws s) (w : CellWord) : ClaimLaws (takePayloadWord s w) := by
  unfold takePayloadWord
  split
  · exact h
  refine keeps_ite (fun _ => h) fun _ => ?_
  have h1 := (claimLaws_setFrame h { ‹Frame› with payloadWords := ‹Frame›.payloadWords + 1 }).within (within_gather _ w)
  exact keeps_ite (fun _ => h1) fun _ => claimLaws_endPayload (claimLaws_measureOffset h1 _)

theorem claimLaws_openClaims {s : State} (h : ClaimLaws s) : ClaimLaws (openClaims s) := by
  have hg : Gated { s with sub := { s.sub with claimsOpen := claimsAllowed s } } :=
    h.gated.imp_left fun ⟨ha, _⟩ => ⟨ha, ha⟩
  exact claimLaws_claimReview (h.reviewed.congr rfl rfl fun _ => rfl) hg h.sorted

theorem claimLaws_releaseOutgoing {s : State} (h : ClaimLaws s) (g : FrameCount) : ClaimLaws (releaseOutgoing s g) := by
  unfold releaseOutgoing
  split
  · exact keeps_ite (fun _ => claimLaws_setMaps h rfl) fun _ => h
  · exact h

theorem claimLaws_frameStart {s : State} (h : ClaimLaws s) : ClaimLaws (frameStart s) := by
  have h1 := claimLaws_openClaims (claimLaws_noteStart h)
  have h2 := (h1.noticed (noticed_cadencePoint _) (within_cadencePoint _)).within (within_resync _ s.ftr.count)
  have h3 := (h2.noticed (noticed_repeatLapsed _) (within_repeatLapsed _)).within (within_ageOut _ s.ftr.count)
  exact claimLaws_releaseOutgoing h3 s.ftr.count

theorem SameClaims.dropOutgoing (s : State) : SameClaims s (dropOutgoing s) := ⟨rfl, rfl, rfl, rfl, rfl, rfl, fun _ => rfl⟩

theorem claimLaws_enterLost {s : State} (h : ClaimLaws s) : ClaimLaws (enterLost s) := by
  have hw : Within [.tracker, .slots] s (cancelReleases (emptySlots (leaveFrames s .lost))) :=
    ((within_leaveFrames s .lost).mono.trans (within_emptySlots _).mono).trans (within_setTracker _ _).mono
  have h1 := ((SameClaims.within hw).trans (.dropOutgoing _)).trans (.within (within_emptyArrivals _))
  have h2 := (h1.trans (.within (within_emptyReleaseList _))).trans (.within (within_setStatusTimer _ (some (s.now + framePeriod))))
  exact h.settle h2

theorem claimLaws_returnToSearch {s : State} (h : ClaimLaws s) (hs : ¬Timed s.ftr.sync) : ClaimLaws (returnToSearch s) := by
  have h1 : ClaimLaws (leaveFrames s .search) := claimLaws_setTracker h fun k => absurd k hs
  exact h1.within (within_clearFill _)

theorem claimLaws_slip {s : State} (h : ClaimLaws s) (g : FrameCount) : ClaimLaws (slip s g) := by
  have h1 : ClaimLaws (dropChangeover (adoptCount (abandonWork s) g)) :=
    claimLaws_setMaps (claimLaws_adoptCount (h.within (within_abandonWork s)) g) rfl
  have h2 := h1.within (within_slipDelivery _)
  exact keeps_ite (fun _ => h2) fun _ => h2.noticed (noticed_reportIdle _) (within_reportIdle _)

theorem claimLaws_lock {s : State} (h : ClaimLaws s) (r : FrameRecord) : ClaimLaws (lock s r) :=
  claimLaws_frameStart ((claimLaws_nameFrame h r).within (within_setStatusTimer _ none))

theorem claimLaws_endReception {s : State} (h : ClaimLaws s) : ClaimLaws (endReception s) := by
  have h1 {x : Tracker} (hx : x.sync = .holdover) : ClaimLaws (setTracker s x) := claimLaws_setTracker h fun _ => .inr hx
  unfold endReception
  split
  · exact h1 rfl
  split
  · exact h1 rfl
  · refine ClaimLaws.within (h1 ?_) (within_clearFill _)
    rfl

theorem claimLaws_trackRecord {s : State} (h : ClaimLaws s) (f : Frame) (r : FrameRecord) : ClaimLaws (trackRecord s f r) := by
  unfold trackRecord
  split
  · exact keeps_ite (fun _ => claimLaws_lock h r) fun _ => h
  · exact keeps_ite (fun _ => claimLaws_endReception h) fun _ => keeps_ite (fun _ => h) fun _ => claimLaws_slip h _
  · exact keeps_ite (fun _ => h) fun _ => keeps_ite (fun _ => claimLaws_failTrial h f) fun _ =>
      keeps_ite (fun _ => claimLaws_setTracker h fun _ => .inl rfl) fun _ => claimLaws_slip h _
  · exact h
  · exact h

theorem claimLaws_takeFrameRecord {s : State} (h : ClaimLaws s) (r : FrameRecord) : ClaimLaws (takeFrameRecord s r) := by
  unfold takeFrameRecord
  split
  · exact h
  · refine keeps_ite (fun _ => h) fun _ => ?_
    have h1 := claimLaws_trackRecord (claimLaws_setFrame h { ‹Frame› with recordSeen := true })
      { ‹Frame› with recordSeen := true } r
    exact keeps_ite (fun _ => claimLaws_mapFrameRecord h1 r) fun _ => h1

theorem claimLaws_takeBlock {s : State} (h : ClaimLaws s) (b : ControlBlock) : ClaimLaws (takeBlock s b) := by
  cases b with
  | badCheck => exact claimLaws_countControlError h
  | unknownKind => exact claimLaws_countControlError h
  | padding => exact h
  | frame r => exact keeps_ite (fun _ => claimLaws_takeFrameRecord h r) fun _ => claimLaws_countControlError h
  | stream tag e =>
    exact keeps_ite (fun _ => claimLaws_countControlError h) fun _ =>
      keeps_ite (fun _ => claimLaws_mapStreamRecord h tag e) fun _ => h

theorem claimLaws_countControlWord {s : State} (h : ClaimLaws s) (kept : Bool) (w : CellWord) (b : ControlBlock) :
    ClaimLaws (countControlWord s kept w b) := by
  have h1 := claimLaws_setControl h (wordCounted s.ftr.control kept w)
  have h2 : ClaimLaws (blockDone (setControl s (wordCounted s.ftr.control kept w)) s.ftr.control kept w b) :=
    keeps_ite (fun _ => claimLaws_takeBlock h1 b) fun _ => h1
  exact keeps_ite (fun _ => h) fun _ => keeps_ite (fun _ => claimLaws_endControl h2) fun _ => h2

theorem claimLaws_takeControlWord {s : State} (h : ClaimLaws s) (w : CellWord) (b : ControlBlock) :
    ClaimLaws (takeControlWord s w b) := by
  unfold takeControlWord
  dsimp only
  split
  · exact h
  · exact claimLaws_countControlWord h _ w b
  · exact keeps_ite (fun _ => claimLaws_setTracker h id) fun _ => h

theorem claimLaws_passHeld {s : State} (h : ClaimLaws s) (held : List (Option (CellWord × ControlBlock))) :
    ClaimLaws (passHeld s held) := by
  unfold passHeld
  induction held generalizing s with
  | nil => exact h
  | cons x xs ih =>
    cases x with
    | none => exact ih (claimLaws_countControlWord h false 0 .padding)
    | some p => exact ih (claimLaws_takeControlWord h p.1 p.2)

theorem claimLaws_installFrame {s : State} (h : ClaimLaws s) (f : Frame) (m : Bool) : ClaimLaws (installFrame s f m) := by
  have h1 : ClaimLaws (setTracker s { s.ftr with frame := some f, control := nextControl s m, nextEnded := false }) :=
    claimLaws_setTracker h id
  exact keeps_ite (fun _ => h1.within (within_setIlm _ _)) fun _ => h1

theorem claimLaws_beginUnnamed {s : State} (h : ClaimLaws s) (hs : ¬Timed s.ftr.sync) : ClaimLaws (beginUnnamed s) := by
  have h1 : ClaimLaws (setTracker s { s.ftr with sync := .provisional }) := claimLaws_setTracker h fun k => absurd k hs
  exact claimLaws_passHeld (claimLaws_setMarker (claimLaws_installFrame h1 _ true) _) _

theorem claimLaws_beginNamed {s : State} (h : ClaimLaws s) (k : FrameKind) : ClaimLaws (beginNamed s k) :=
  claimLaws_passHeld (claimLaws_setMarker (claimLaws_frameStart
    (claimLaws_installFrame (claimLaws_advanceCount h) _ true)) _) _

theorem sync_enterLost (s : State) : (enterLost s).ftr.sync = .lost := by
  unfold enterLost
  rw [(within_settleClaims _).ftr]
  rfl

theorem sync_failIfUnnamed (s : State) : (failIfUnnamed s).ftr.sync = s.ftr.sync := by
  unfold failIfUnnamed
  split
  · split <;> rfl
  · rfl

theorem sync_endControl (s : State) : (endControl s).ftr.sync = s.ftr.sync := by
  unfold endControl
  split
  · rfl
  · split
    · rfl
    · exact sync_failIfUnnamed _

theorem sync_issuePayloadEnd (s : State) (received : Bool) : (issuePayloadEnd s received).ftr.sync = s.ftr.sync := by
  unfold issuePayloadEnd
  dsimp only
  rw [(within_jobsAtPayloadEnd _ _ _).ftr]
  rfl

theorem sync_endPayload (s : State) : (endPayload s).ftr.sync = s.ftr.sync := by
  have h := sync_failIfUnnamed s
  unfold endPayload
  split
  · rfl
  split
  · rfl
  dsimp only
  split
  · exact h
  · unfold finishPayload
    dsimp only
    split
    · rw [sync_issuePayloadEnd]
      exact h
    · exact h

theorem sync_endFrame (s : State) : (endFrame s).ftr.sync = s.ftr.sync := (sync_endPayload _).trans (sync_endControl s)

theorem claimLaws_markerArrival {s : State} (h : ClaimLaws s) : ClaimLaws (markerArrival s) := by
  have he := claimLaws_endFrame h
  have hout {x : SyncState} (hx : x ≠ .locked ∧ x ≠ .holdover) : ¬Timed x := fun k => k.elim hx.1 hx.2
  unfold markerArrival
  split
  · exact claimLaws_beginUnnamed h (hout (by simp [*]))
  · exact claimLaws_beginUnnamed h (hout (by simp [*]))
  · exact keeps_ite (fun _ => claimLaws_beginUnnamed he (hout (by simp [sync_endFrame, *]))) fun _ => h
  · exact keeps_ite (fun _ => claimLaws_beginNamed he _) fun _ => h
  · exact keeps_ite (fun _ => h) fun _ => keeps_ite
      (fun _ => claimLaws_beginUnnamed (claimLaws_enterLost he) (hout (by simp [sync_enterLost])))
      fun _ => claimLaws_beginNamed he _

theorem claimLaws_beginFlywheel {s : State} (h : ClaimLaws s) (t : Instant) : ClaimLaws (beginFlywheel s t) :=
  claimLaws_setMarker (claimLaws_frameStart
    (claimLaws_installFrame (claimLaws_advanceCount (claimLaws_countFlywheel h)) _ false)) _

theorem claimLaws_closeWindow {s : State} (h : ClaimLaws s) (t : Instant) : ClaimLaws (closeWindow s t) := by
  have he := claimLaws_endFrame h
  unfold closeWindow
  split
  · exact h
  · exact h
  · exact claimLaws_returnToSearch h (by simp [Timed, *])
  · have h1 : ClaimLaws (setTracker (endFrame s) { (endFrame s).ftr with flywheel := 0, nextEnded := false }) :=
      claimLaws_setTracker he id
    exact claimLaws_beginFlywheel h1 t
  · exact keeps_ite (fun _ => h) fun _ => keeps_ite (fun _ => claimLaws_enterLost he) fun _ => claimLaws_beginFlywheel he t

theorem claimLaws_payloadLaneGone {s : State} (h : ClaimLaws s) : ClaimLaws (payloadLaneGone s) := by
  unfold payloadLaneGone
  split
  · exact claimLaws_returnToSearch h (by simp [Timed, *])
  · exact claimLaws_endReception h
  · exact h
  · exact h
  · exact h

theorem claimLaws_laneGone {s : State} (h : ClaimLaws s) (i : LaneId) : ClaimLaws (laneGone s i) :=
  keeps_ite (fun _ => claimLaws_payloadLaneGone (claimLaws_endControl h)) fun _ => keeps_ite
    (fun _ => claimLaws_payloadLaneGone h) fun _ => claimLaws_setControl (claimLaws_endControl h) _

/-! ### Link and modes -/

theorem SameClaims.setLink (s : State) (l : Link) : SameClaims s (setLink s l) := .within (within_setLink s l)

theorem claimLaws_setLink {s : State} (h : ClaimLaws s) {l : Link} (hl : l.state = s.lnk.state) : ClaimLaws (setLink s l) :=
  h.congr (.setLink s l) (claimsAllowed_congr rfl hl id)

theorem claimLaws_contend {s : State} (h : ClaimLaws s) (rivals : List ArbField) : ClaimLaws (contend s rivals) := by
  unfold contend
  refine keeps_ite (fun _ => h) fun _ => ?_
  split
  · exact h
  · exact keeps_ite (fun _ => claimLaws_setLink h rfl) fun _ => h

theorem claimLaws_enterQuiesced {s : State} (h : ClaimLaws s) : ClaimLaws (enterQuiesced s) :=
  h.settle ((SameClaims.within (within_setMode s _)).trans (.within (within_clearQueue _ _)))

theorem claimLaws_endDraining {s : State} (h : ClaimLaws s) (hm : s.mod.mode = .draining) : ClaimLaws (endDraining s) := by
  have h1 (m : Mode) : ClaimLaws (leaveDraining s m) :=
    h.congr (.within (within_leaveDraining s m)) fun k => by simp [claimsAllowed, hm] at k
  unfold endDraining
  dsimp only
  split
  · exact claimLaws_enterQuiesced (h1 _)
  · exact (h1 _).noticed (noticed_offerNotice _ _) (within_offerNotice _ _)
  · exact h1 _

theorem claimLaws_offLine {s : State} (h : ClaimLaws s) : ClaimLaws (offLine s) := claimLaws_setLink h rfl

theorem claimLaws_tellOwner {s : State} (h : ClaimLaws s) (e : Entry) : ClaimLaws (tellOwner s e) :=
  h.noticed (noticed_tellOwner s e) (within_tellOwner s e)

theorem claimLaws_failAttempt {s : State} (h : ClaimLaws s) (a : Attempt) : ClaimLaws (failAttempt s a) := by
  have h1 := claimLaws_offLine h
  unfold failAttempt
  dsimp only
  split
  · exact h1
  · exact keeps_ite (fun _ => h1.within (within_updateEntry _ _ _)) fun _ => keeps_ite
      (fun _ => claimLaws_tellOwner ((h1.within (within_removeEntry _ _)).within (within_countLinkDrop _)) _)
      fun _ => h1.within (within_updateEntry _ _ _)

theorem claimLaws_entrySent {s : State} (h : ClaimLaws s) (e : Entry) : ClaimLaws (entrySent s e) := by
  have h1 := claimLaws_tellOwner (h.within (within_removeEntry s e.uid)) e
  exact keeps_ite (fun g => claimLaws_endDraining h1 g.2) fun _ => keeps_ite (fun _ => claimLaws_enterQuiesced h1) fun _ => h1

theorem claimLaws_completeAttempt {s : State} (h : ClaimLaws s) (a : Attempt) : ClaimLaws (completeAttempt s a) := by
  have h1 := claimLaws_offLine h
  unfold completeAttempt
  dsimp only
  split
  · exact h1.noticed (noticed_resolve _ _ _ _) (within_resolve _ _ _ _)
  · exact h1.noticed (noticed_resolve _ _ _ _) (within_resolve _ _ _ _)
  · split
    · exact h1
    · exact keeps_ite (fun _ => h1.within (within_updateEntry _ _ _)) fun _ => claimLaws_entrySent h1 _

theorem claimLaws_endAttempt {s : State} (h : ClaimLaws s) (rejected : Bool) : ClaimLaws (endAttempt s rejected) := by
  unfold endAttempt
  split
  · exact h
  · exact keeps_ite (fun _ => claimLaws_failAttempt h _) fun _ => claimLaws_completeAttempt h _

theorem claimLaws_abortAttempt {s : State} (h : ClaimLaws s) : ClaimLaws (abortAttempt s) := by
  unfold abortAttempt
  split
  · exact h
  · exact claimLaws_failAttempt h _

theorem claimLaws_enterFault {s : State} (h : ClaimLaws s) (r : FaultRecord) (x : Option Instant) :
    ClaimLaws (enterFault s r x) := h.settle (.setLink s _)

theorem claimLaws_duplicateFault {s : State} (h : ClaimLaws s) : ClaimLaws (duplicateFault s) :=
  keeps_ite (fun _ => h) fun _ => keeps_ite (fun _ => claimLaws_setLink (claimLaws_enterFault h _ _) rfl) fun _ =>
    claimLaws_setLink (claimLaws_enterFault h _ _) rfl

theorem SameClaims.armAdoption (s : State) : SameClaims s (armAdoption s) := ⟨rfl, rfl, rfl, rfl, rfl, rfl, fun _ => rfl⟩
theorem SameClaims.spendMark (s : State) : SameClaims s (spendMark s) := ⟨rfl, rfl, rfl, rfl, rfl, rfl, fun _ => rfl⟩

theorem claimLaws_enterListening {s : State} (h : ClaimLaws s) : ClaimLaws (enterListening s) :=
  h.settle ((SameClaims.setLink s _).trans (.armAdoption _))

theorem claimLaws_join {s : State} (h : ClaimLaws s) (hl : s.lnk.state = .listening) :
    ClaimLaws (endRestarting (spendMark (setLink s { s.lnk with state := .joined, joinTimer := none }))) :=
  h.congr (((SameClaims.setLink s _).trans (.spendMark _)).trans (.within (within_endRestarting _)))
    fun k => by simp [claimsAllowed, hl] at k

/-! ### Messages and requests -/

theorem claimLaws_tieBreak {s : State} (h : ClaimLaws s) (p : Station) : ClaimLaws (tieBreak s p) := by
  refine keeps_ite (fun _ => ?_) fun _ => h
  refine claimLaws_claimReview (h.reviewed.congr rfl rfl fun _ => rfl) ?_ (h.sorted.filter _)
  rcases h.gated with hg | ⟨hc, -⟩
  · exact .inl hg
  · refine .inr ⟨?_, ?_⟩ <;> simp [setClaims, hc, grainSum]

theorem claimLaws_adoptSubscriptions {s : State} (h : ClaimLaws s) (l : List Subscription) :
    ClaimLaws (adoptSubscriptions s l) := by
  have hw := Within.times within_countControlError (l.length - (adoptedTable l).length) s
  have h1 := (h.within hw).congr (SameClaims.spendMark _) id
  exact claimLaws_tableChange h1.reviewable _

theorem claimLaws_hearStatus {s : State} (h : ClaimLaws s) (m : LinkMessage) : ClaimLaws (hearStatus s m) := by
  have h1 := h.within (within_setPeer s (Fin.ofNat 8 m.header.source.toNat) (peerOfStatus m (s.now + joinTime)))
  unfold hearStatus
  refine ClaimLaws.noticed ?_ (noticed_raiseMarks _ _) (within_raiseMarks _ _)
  exact claimLaws_weighStatus (claimLaws_tieBreak (keeps_ite (fun _ => claimLaws_adoptSubscriptions h1 _) fun _ => h1) _) _

theorem claimLaws_applySubscribe {s : State} (h : ClaimLaws s) (e : Subscription) : ClaimLaws (applySubscribe s e) := by
  unfold applySubscribe
  split
  · exact keeps_ite (fun _ => h) fun _ => claimLaws_tableChange h.reviewable _
  · exact keeps_ite (fun _ => claimLaws_tableChange h.reviewable _) fun _ => h

theorem claimLaws_applyRelease {s : State} (h : ClaimLaws s) (x : StreamId) (c : Byte) : ClaimLaws (applyRelease s x c) :=
  keeps_ite (fun _ => claimLaws_tableChange h.reviewable _) fun _ => h

theorem claimLaws_ensembleChange (s : State) (id : EnsembleId) : ClaimLaws (ensembleChange s id) := by
  have h1 : ClaimLaws (retune (forgetEnsemble (abandonAll (enterDraining s))) id) := claimLaws_of_empty rfl rfl rfl rfl
  unfold ensembleChange
  refine ClaimLaws.noticed ?_ (noticed_offerNotice _ _) (within_offerNotice _ _)
  exact keeps_ite (fun _ => h1.within (within_setStatusTimer _ _)) fun _ => h1

theorem claimLaws_relisten {s : State} (h : ClaimLaws s) : ClaimLaws (relisten s) := by
  unfold relisten
  split
  · exact claimLaws_enterListening h
  · have h1 : ClaimLaws (setLink s { s.lnk with joinTimer := some (s.now + joinTime) }) := claimLaws_setLink h rfl
    exact h1.congr (.armAdoption _) id
  · exact h
  · exact h

theorem claimLaws_restart {s : State} (h : ClaimLaws s) : ClaimLaws (restart s) := by
  refine keeps_ite (fun _ => h) fun _ => ?_
  have hw : Within [.mode, .scheduler, .store, .queue] s
      (clearQueue (emptyStore (stopEngines (setMode s .restarting))) isStatusEntry) :=
    ((within_setMode s _).mono.trans (within_stopEngines _).mono).trans
      ((within_emptyStore _).mono.trans (within_clearQueue _ _).mono)
  have hr (t : State) : SameClaims t (restartMaps t) := ⟨rfl, rfl, rfl, rfl, rfl, rfl, fun _ => rfl⟩
  exact (claimLaws_relisten (h.settle ((SameClaims.within hw).trans (hr _)))).stand (within_restartPass _)
    (marked_restartPass _).stand

theorem claimLaws_quiesce {s : State} (h : ClaimLaws s) : ClaimLaws (quiesce s) := by
  refine keeps_ite (fun _ => ?_) fun _ => h
  have hw : Within [.mode, .scheduler, .store, .queue] s
      (emptyStore (withdraw (quiesceJobs (setMode s .quiescing)) copyEntry)) :=
    ((within_setMode s _).mono.trans (within_quiesceJobs _).mono).trans
      ((within_withdraw _ _).mono.trans (within_emptyStore _).mono)
  exact (h.settle (.within hw)).noticed (noticed_reportIdle _) (within_reportIdle _)

theorem claimLaws_resumeWork {s : State} (h : ClaimLaws s) (hm : s.mod.mode ≠ .running) : ClaimLaws (resumeWork s) := by
  have h1 : ClaimLaws (setMode s .running) :=
    h.congr (.within (within_setMode s _)) fun k => by simp [claimsAllowed, hm] at k
  have h2 := (h1.within (within_resumeContexts _)).within (within_withdraw _ (fun e => e.kind == .quiesced))
  exact (h2.noticed (noticed_testNotice _) (within_testNotice _)).within (within_settleJobs _)

theorem claimLaws_resume {s : State} (h : ClaimLaws s) : ClaimLaws (resume s) := by
  unfold resume
  split
  · exact claimLaws_resumeWork h (by simp [*])
  · exact claimLaws_resumeWork h (by simp [*])
  · exact keeps_ite (fun _ => h.congr ⟨rfl, rfl, rfl, rfl, rfl, rfl, fun _ => rfl⟩ id) fun _ => h
  · exact h
  · exact h

theorem kept_claimLaws : Kept ClaimLaws where
  steady hw hm h := h.stand hw hm
  settled h := h.settle (.refl _)
  lane i l _ h := h.within (within_setLane _ i l)
  gone i h := claimLaws_laneGone h i
  payloadWord w h := claimLaws_takePayloadWord h w
  controlWord w b h := claimLaws_takeControlWord h w b
  marker h := claimLaws_markerArrival h
  control x h := claimLaws_setControl h x
  absent _ h := claimLaws_endReception h
  window m _ h := claimLaws_closeWindow h m
  payloadEnd h := claimLaws_endPayload h
  lost _ h := claimLaws_enterLost h
  releases _ h := claimLaws_setTracker h id
  status _ _ _ h := h.within (within_setStatusTimer _ _)
  attempt rejected h := claimLaws_endAttempt h rejected
  endSlot _ h := claimLaws_setLink h rfl
  abort h := claimLaws_abortAttempt h
  duplicate h := claimLaws_duplicateFault h
  stuck _ h := claimLaws_setLink (claimLaws_enterFault (claimLaws_abortAttempt h) _ _) rfl
  recessive _ h := claimLaws_setLink h rfl
  listening _ _ h := claimLaws_enterListening h
  joined hl h := claimLaws_join h hl
  statusHeard m h := claimLaws_hearStatus h m
  noticeHeard n h := claimLaws_hearNotice h n
  subscribed e h := claimLaws_applySubscribe h e
  released x c h := claimLaws_applyRelease h x c
  changed id _ := claimLaws_ensembleChange _ id
  restarted h := claimLaws_restart h
  quiesced h := claimLaws_quiesce h
  resumed h := claimLaws_resume h

/-! ### Steps -/

theorem claimLaws_of_sound {s : State} (hr : ClassesReviewed s) (hc : ClaimsSound s) (hs : s.held = false) : ClaimLaws s := by
  obtain ⟨hset, hopen, hsort, hel, hload, hle⟩ := hc
  refine ⟨hr, ?_, hsort, hel, hload, hle⟩
  cases ho : s.sub.claimsOpen with
  | false => exact .inr ⟨hopen ho, by rw [hload, hopen ho]; rfl⟩
  | true =>
    rcases hset hs with ha | ⟨h1, h2, -⟩
    · exact .inl ⟨ha, ho⟩
    · exact .inr ⟨h1, h2⟩

theorem ClaimLaws.sound {s : State} (h : ClaimLaws s) (hs : s.held = false → Settled s) : ClassesReviewed s ∧ ClaimsSound s := by
  refine ⟨h.reviewed, hs, fun ho => ?_, h.sorted, h.eligible, h.load, h.bound⟩
  rcases h.gated with ⟨-, h1⟩ | ⟨h1, -⟩
  · rw [ho] at h1
    cases h1
  · exact h1

theorem claimsSound_of_empty {s : State} (ht : s.sub.table = []) (hf : s.sub.foregroundLoad = 0) (hc : s.sub.claims = [])
    (hl : s.sub.claimLoad = 0) (ho : s.sub.claimsOpen = false) : ClassesReviewed s ∧ ClaimsSound s :=
  (claimLaws_of_empty ht hf hc hl).sound fun _ => .inr ⟨hc, hl, ho⟩

/-- Claims and classes as they stand in a state of which the laws read the same. -/
theorem claimsSound_congr {a b : State} (h : ClassesReviewed a ∧ ClaimsSound a) (hs : SameClaims a b)
    (hset : b.held = false → Settled b) : ClassesReviewed b ∧ ClaimsSound b := by
  obtain ⟨hr, -, hopen, hsort, hel, hload, hle⟩ := h
  refine ⟨hr.congr hs.table hs.foregroundLoad hs.loads, hset, ?_, ?_, ?_, ?_, ?_⟩
  · rw [hs.claimsOpen, hs.claims]
    exact hopen
  · rw [hs.claims]
    exact hsort
  · intro x hx
    rw [hs.eligible]
    exact hel x (hs.claims ▸ hx)
  · rw [hs.claimLoad, hs.claims, hs.grainSum, hload]
  · rw [hs.foregroundLoad, hs.claimLoad]
    exact hle

theorem exec_keeps_claims {s u : State} {c : Instr} (hs : ClassesReviewed s ∧ ClaimsSound s) (h : exec c s = .next u) :
    ClassesReviewed u ∧ ClaimsSound u := by
  by_cases hpin : isPinReset c = true
  · cases c with
    | pinResetAssert t => cases h; exact claimsSound_of_empty rfl rfl rfl rfl rfl
    | pinResetRelease t straps => cases h; exact claimsSound_of_empty rfl rfl rfl rfl rfl
    | _ => cases hpin
  have hpin : isPinReset c = false := by simpa using hpin
  cases hh : s.held with
  | true =>
    rw [exec_held hh hpin] at h
    cases h
    exact claimsSound_congr hs (.within (within_clocked _ _)) fun e => by
      rw [show s.held = false from e] at hh
      cases hh
  | false =>
    exact (kept_claimLaws.exec hpin (fun _ rivals _ _ h => claimLaws_contend h rivals) h (claimLaws_of_sound hs.1 hs.2 hh)).sound fun _ => settled_of_exec hh hpin h

/-- Settles O57: every operation keeps the laws or ends with the reviews that bring them about. -/
theorem stepKeepsClaimsSound : Obligations.StepKeepsClaimsSound := by
  intro s u hr hc h
  unfold step at h
  split at h
  · cases h
    exact ⟨hr, hc⟩
  · rename_i c rest _
    have h0 : ClassesReviewed { s with pending := rest } ∧ ClaimsSound { s with pending := rest } :=
      claimsSound_congr ⟨hr, hc⟩ ⟨rfl, rfl, rfl, rfl, rfl, rfl, fun _ => rfl⟩ hc.1
    exact exec_keeps_claims h0 h

end Sys2Proof.Machine

/-! PROOFS. O59: the laws of the tracker, the device mode and the lanes. -/

namespace Sys2Proof.Machine

-- one theorem at a time: elaborated side by side, they would hold more threads than the check allows
set_option Elab.async false

/-! ### What the operations of frame time do to the tracker -/

theorem ftr_setMarker (s : State) (t : Instant) : (setMarker s t).ftr = { s.ftr with marker := some t } := rfl

theorem ftr_installFrame (s : State) (f : Frame) (m : Bool) :
    (installFrame s f m).ftr = { s.ftr with frame := some f, control := nextControl s m, nextEnded := false } := by
  unfold installFrame
  dsimp only
  split <;> rfl

/-- The state as a marker has begun an unnamed frame, before the words that waited for it are passed on (R9, R10). -/
def unnamed (s : State) : State :=
  setMarker (installFrame (setTracker s { s.ftr with sync := .provisional }) (newFrame s.now .reception false none) true)
    (s.now + framePeriod)

theorem beginUnnamed_eq (s : State) : beginUnnamed s = passHeld (unnamed s) (waiting s) := rfl

theorem ftr_unnamed (s : State) :
    (unnamed s).ftr = { s.ftr with sync := .provisional, frame := some (newFrame s.now .reception false none),
                                   control := nextControl s true, nextEnded := false, marker := some (s.now + framePeriod) } := by
  rw [unnamed, ftr_setMarker, ftr_installFrame]
  rfl

theorem within_unnamed (s : State) : Within [.tracker, .slots] s (unnamed s) :=
  ((within_setTracker s _).mono.trans (within_installFrame _ _ _)).trans (within_setMarker _ _).mono

theorem ftr_frameStart (s : State) : (frameStart s).ftr = { s.ftr with lastStart := some s.ftr.count } := by
  unfold frameStart
  dsimp only
  rw [(within_releaseOutgoing _ _).ftr, (within_ageOut _ _).ftr, (within_repeatLapsed _).ftr, (within_resync _ _).ftr,
    (within_cadencePoint _).ftr, (within_openClaims _).ftr]
  rfl

theorem ftr_enterLost (s : State) :
    (enterLost s).ftr = { s.ftr with sync := .lost, frame := none, marker := none, control := idleControl s.ftr.control,
                                     nextEnded := false, releases := [] } := by
  unfold enterLost
  rw [(within_settleClaims _).ftr]
  rfl

theorem statusTimer_enterLost (s : State) : (enterLost s).mod.statusTimer = some (s.now + framePeriod) := by
  unfold enterLost
  rw [(within_settleClaims _).statusTimer]
  rfl

theorem ftr_adoptCount (s : State) (g : FrameCount) :
    (adoptCount s g).ftr = { s.ftr with sync := .locked, count := g, flywheel := 0, releases := [],
                                        frame := s.ftr.frame.map (fun f => { f with kind := .reception }) } := rfl

theorem ftr_slip (s : State) (g : FrameCount) :
    (slip s g).ftr = { s.ftr with sync := .locked, count := g, flywheel := 0, releases := [],
                                  frame := s.ftr.frame.map (fun f => { f with kind := .reception }) } := by
  have h : (slipDelivery (dropChangeover (adoptCount (abandonWork s) g))).ftr =
      { s.ftr with sync := .locked, count := g, flywheel := 0, releases := [],
                   frame := s.ftr.frame.map (fun f => { f with kind := .reception }) } := by
    rw [(within_slipDelivery _).ftr, dropChangeover, setMaps_ftr, ftr_adoptCount, (within_abandonWork s).ftr]
  unfold slip
  dsimp only
  split
  · exact h
  · rw [(within_reportIdle _).ftr, h]

/-! ### The laws of the tracker (R9, R14, R17, R167) -/

theorem TrackerSound.congr {a b : State} (h : TrackerSound a) (hs : b.ftr.sync = a.ftr.sync)
    (hf : b.ftr.frame = none ↔ a.ftr.frame = none) (hm : b.ftr.marker = none ↔ a.ftr.marker = none)
    (hw : b.ftr.flywheel ≤ 42) (ht : b.mod.statusTimer = a.mod.statusTimer) (hh : b.held = a.held) : TrackerSound b := by
  obtain ⟨-, h2, h3, h4⟩ := h
  unfold untimed at h2 h3
  refine ⟨hw, ?_, ?_, ?_⟩
  · unfold untimed
    rw [hf, hs, h2]
  · unfold untimed
    rw [hm, hs, h3]
  · rw [hh, ht, hs]
    exact h4

/-- A change beside the tracker and the status timer keeps the laws of the tracker. -/
theorem TrackerSound.within {ps : List Part} {a b : State} (h : TrackerSound a) (hw : Within ps a b)
    (ht : Part.tracker ∉ ps := by decide) (hs : Part.statusTimer ∉ ps := by decide) (hh : Part.held ∉ ps := by decide) :
    TrackerSound b := by
  have e := hw.ftr ht
  exact h.congr (by rw [e]) (by rw [e]) (by rw [e]) (by rw [e]; exact h.1) (hw.statusTimer hs) (hw.held hh)

/-- Sync state, marker timing and flywheel count standing, and a frame in progress as before. -/
theorem TrackerSound.setTracker {s : State} (h : TrackerSound s) {x : Tracker} (hs : x.sync = s.ftr.sync)
    (hf : x.frame = none ↔ s.ftr.frame = none) (hm : x.marker = s.ftr.marker) (hw : x.flywheel ≤ 42) :
    TrackerSound (Machine.setTracker s x) := h.congr hs hf (by rw [← hm]; rfl) hw rfl rfl

theorem TrackerSound.frame_ne {s : State} (h : TrackerSound s) (hs : ¬untimed s) : s.ftr.frame ≠ none :=
  fun e => hs (h.2.1.1 e)

theorem TrackerSound.setFrame {s : State} (h : TrackerSound s) {f : Frame} (hf : s.ftr.frame = some f) (g : Frame) :
    TrackerSound (Machine.setFrame s g) :=
  h.setTracker rfl (by rw [hf]; exact ⟨fun e => (Option.some_ne_none _ e).elim, fun e => (Option.some_ne_none _ e).elim⟩) rfl h.1

theorem TrackerSound.setControl {s : State} (h : TrackerSound s) (c : ControlPath) : TrackerSound (Machine.setControl s c) :=
  h.setTracker rfl .rfl rfl h.1

theorem trackerSound_failTrial {s : State} (h : TrackerSound s) (hs : s.ftr.frame ≠ none) (f : Frame) :
    TrackerSound (failTrial s f) :=
  h.setTracker rfl ⟨fun e => (Option.some_ne_none _ e).elim, fun e => absurd e hs⟩ rfl (Nat.min_le_left _ _)

theorem trackerSound_failIfUnnamed {s : State} (h : TrackerSound s) : TrackerSound (failIfUnnamed s) := by
  unfold failIfUnnamed
  split
  · rename_i f hf
    exact keeps_ite (fun _ => trackerSound_failTrial h (by simp [hf]) f) fun _ => h
  · exact h

theorem trackerSound_endControl {s : State} (h : TrackerSound s) : TrackerSound (endControl s) := by
  unfold endControl
  split
  · exact h
  · rename_i f hf
    exact keeps_ite (fun _ => h) fun _ => trackerSound_failIfUnnamed (h.setFrame hf _)

theorem trackerSound_issuePayloadEnd {s : State} (h : TrackerSound s) (received : Bool) :
    TrackerSound (issuePayloadEnd s received) := by
  have h1 : TrackerSound (setTracker (setIlm s (fileSlot s.ilm s.ftr.count received))
      { s.ftr with releases := s.ftr.releases ++ [(s.ftr.count - 7, s.now + framePeriod)] }) :=
    (h.within (within_setIlm s _)).setTracker rfl .rfl rfl h.1
  exact h1.within (within_jobsAtPayloadEnd _ _ _)

theorem trackerSound_endPayload {s : State} (h : TrackerSound s) : TrackerSound (endPayload s) := by
  have h1 := trackerSound_failIfUnnamed h
  unfold endPayload
  split
  · exact h
  refine keeps_ite (fun _ => h) fun _ => ?_
  dsimp only
  split
  · exact h1
  · rename_i f hf
    exact keeps_ite (fun _ => trackerSound_issuePayloadEnd (h1.setFrame hf _) _) fun _ =>
      (h1.setFrame hf _).within (within_clearFill _)

theorem trackerSound_endFrame {s : State} (h : TrackerSound s) : TrackerSound (endFrame s) :=
  trackerSound_endPayload (trackerSound_endControl h)

theorem trackerSound_takePayloadWord {s : State} (h : TrackerSound s) (w : CellWord) : TrackerSound (takePayloadWord s w) := by
  unfold takePayloadWord
  split
  · exact h
  · rename_i f hf
    refine keeps_ite (fun _ => h) fun _ => ?_
    have h1 := (h.setFrame hf { f with payloadWords := f.payloadWords + 1 }).within (within_gather _ w)
    have h2 : TrackerSound (measureOffset (gather (setFrame s { f with payloadWords := f.payloadWords + 1 }) w) f) :=
      h1.setTracker rfl .rfl rfl h1.1
    exact keeps_ite (fun _ => h1) fun _ => trackerSound_endPayload h2

theorem trackerSound_frameStart {s : State} (h : TrackerSound s) : TrackerSound (frameStart s) := by
  have e := ftr_frameStart s
  exact h.congr (by rw [e]) (by rw [e]) (by rw [e]) (by rw [e]; exact h.1) (within_frameStart s).statusTimer
    (within_frameStart s).held

theorem trackerSound_enterLost {s : State} (h : TrackerSound s) : TrackerSound (enterLost s) := by
  have e := ftr_enterLost s
  refine ⟨by rw [e]; exact h.1, ?_, ?_, fun _ => ?_⟩ <;> simp [untimed, e, statusTimer_enterLost]

theorem trackerSound_returnToSearch {s : State} (h : TrackerSound s) (hs : ¬Timed s.ftr.sync) :
    TrackerSound (returnToSearch s) := by
  obtain ⟨h1, -, -, h4⟩ := h
  refine ⟨h1, ?_, ?_, fun hh => ?_⟩
  · simp [untimed, returnToSearch, clearFill, leaveFrames]
  · simp [untimed, returnToSearch, clearFill, leaveFrames]
  · have ht := h4 hh
    exact ⟨fun e => absurd (ht.1 e) hs, fun e => by rcases e with e | e <;> cases e⟩

/-- From frame time to frame time, sync state LOCKED or HOLDOVER. -/
theorem TrackerSound.timed {a b : State} (h : TrackerSound a) (ha : Timed a.ftr.sync) (hb : Timed b.ftr.sync)
    (hf : b.ftr.frame = none ↔ a.ftr.frame = none) (hm : b.ftr.marker = none ↔ a.ftr.marker = none)
    (hw : b.ftr.flywheel ≤ 42) (ht : b.mod.statusTimer = a.mod.statusTimer) (hh : b.held = a.held) : TrackerSound b := by
  obtain ⟨-, h2, h3, h4⟩ := h
  have hout {x : State} (hx : Timed x.ftr.sync) : ¬untimed x := by
    rintro (e | e) <;> rcases hx with k | k <;> rw [e] at k <;> cases k
  refine ⟨hw, ?_, ?_, fun k => ?_⟩
  · rw [hf, h2]
    exact iff_of_false (hout ha) (hout hb)
  · rw [hm, h3]
    exact iff_of_false (hout ha) (hout hb)
  · rw [ht]
    exact iff_of_true ((h4 (hh ▸ k)).2 ha) hb

theorem trackerSound_slip {s : State} (h : TrackerSound s) (hs : Timed s.ftr.sync) (g : FrameCount) : TrackerSound (slip s g) := by
  have e := ftr_slip s g
  refine h.timed hs (.inl (by rw [e])) ?_ (by rw [e]) (by rw [e]; exact Nat.zero_le _) (within_slip s g).statusTimer
    (within_slip s g).held
  rw [e]
  simp

theorem trackerSound_lock {s : State} (h : TrackerSound s) (hs : s.ftr.sync = .provisional) (r : FrameRecord) :
    TrackerSound (lock s r) := by
  have hin : ¬untimed s := by simp [untimed, hs]
  have h1 : TrackerSound (setStatusTimer (nameFrame s r) none) := by
    refine ⟨Nat.zero_le _, ?_, ?_, fun _ => ?_⟩
    · simpa [untimed, nameFrame] using h.frame_ne hin
    · simpa [untimed, nameFrame, hs] using h.2.2.1
    · simp [nameFrame]
  exact trackerSound_frameStart h1

theorem trackerSound_endReception {s : State} (h : TrackerSound s) (hs : s.ftr.sync = .locked) : TrackerSound (endReception s) := by
  have hin : ¬untimed s := by simp [untimed, hs]
  have hne := h.frame_ne hin
  have hstep {x : Tracker} (hx : x.sync = .holdover) (hf : x.frame ≠ none) (hm : x.marker = s.ftr.marker) (hw : x.flywheel = 1) :
      TrackerSound (setTracker s x) :=
    h.timed (.inl hs) (.inr hx) (iff_of_false hf hne) (by rw [← hm]; rfl) (by show x.flywheel ≤ 42; omega) rfl rfl
  unfold endReception
  split
  · rename_i hf
    exact absurd hf hne
  split
  · exact hstep rfl (by rename_i hf _; simp [hf]) rfl rfl
  · refine TrackerSound.within (hstep ?_ ?_ ?_ ?_) (within_clearFill _)
    · rfl
    · exact Option.some_ne_none _
    · rfl
    · rfl

theorem trackerSound_trackRecord {s : State} (h : TrackerSound s) (f : Frame) (r : FrameRecord) :
    TrackerSound (trackRecord s f r) := by
  unfold trackRecord
  split
  · exact keeps_ite (fun _ => trackerSound_lock h ‹_› r) fun _ => h
  · exact keeps_ite (fun _ => trackerSound_endReception h ‹_›) fun _ => keeps_ite (fun _ => h) fun _ =>
      trackerSound_slip h (.inl ‹_›) _
  · rename_i hs
    have hne := h.frame_ne (by simp [untimed, hs])
    refine keeps_ite (fun _ => h) fun _ => keeps_ite (fun _ => trackerSound_failTrial h hne f) fun _ =>
      keeps_ite (fun _ => ?_) fun _ => trackerSound_slip h (.inr hs) _
    exact h.timed (.inr hs) (.inl rfl) (iff_of_false (Option.some_ne_none _) hne) .rfl (Nat.zero_le _) rfl rfl
  · exact h
  · exact h

theorem trackerSound_takeFrameRecord {s : State} (h : TrackerSound s) (r : FrameRecord) : TrackerSound (takeFrameRecord s r) := by
  unfold takeFrameRecord
  split
  · exact h
  · rename_i f hf
    refine keeps_ite (fun _ => h) fun _ => ?_
    exact (trackerSound_trackRecord (h.setFrame hf { f with recordSeen := true }) { f with recordSeen := true } r).within
      (within_passToMap _ r)

theorem trackerSound_takeBlock {s : State} (h : TrackerSound s) (b : ControlBlock) : TrackerSound (takeBlock s b) := by
  have he := h.within (within_countControlError s)
  cases b with
  | badCheck => exact he
  | unknownKind => exact he
  | padding => exact h
  | frame r => exact keeps_ite (fun _ => trackerSound_takeFrameRecord h r) fun _ => he
  | stream tag e =>
    exact keeps_ite (fun _ => he) fun _ => keeps_ite (fun _ => h.within (within_mapStreamRecord s tag e)) fun _ => h

theorem trackerSound_countControlWord {s : State} (h : TrackerSound s) (kept : Bool) (w : CellWord) (b : ControlBlock) :
    TrackerSound (countControlWord s kept w b) := by
  have h1 := h.setControl (wordCounted s.ftr.control kept w)
  have h2 : TrackerSound (blockDone (setControl s (wordCounted s.ftr.control kept w)) s.ftr.control kept w b) :=
    keeps_ite (fun _ => trackerSound_takeBlock h1 b) fun _ => h1
  exact keeps_ite (fun _ => h) fun _ => keeps_ite (fun _ => trackerSound_endControl h2) fun _ => h2

theorem trackerSound_takeControlWord {s : State} (h : TrackerSound s) (w : CellWord) (b : ControlBlock) :
    TrackerSound (takeControlWord s w b) := by
  unfold takeControlWord
  dsimp only
  split
  · exact h
  · exact trackerSound_countControlWord h _ w b
  · exact keeps_ite (fun _ => h.setControl _) fun _ => h

theorem trackerSound_passHeld {s : State} (h : TrackerSound s) (held : List (Option (CellWord × ControlBlock))) :
    TrackerSound (passHeld s held) := by
  unfold passHeld
  induction held generalizing s with
  | nil => exact h
  | cons x xs ih =>
    cases x with
    | none => exact ih (trackerSound_countControlWord h false 0 .padding)
    | some p => exact ih (trackerSound_takeControlWord h p.1 p.2)

theorem trackerSound_installFrame {s : State} (h : TrackerSound s) (hs : ¬untimed s) (f : Frame) (m : Bool) :
    TrackerSound (installFrame s f m) := by
  have e := ftr_installFrame s f m
  have hw := within_installFrame s f m
  refine h.congr (by rw [e]) ?_ (by rw [e]) (by rw [e]; exact h.1) hw.statusTimer hw.held
  rw [e]
  exact iff_of_false (Option.some_ne_none _) (h.frame_ne hs)

theorem trackerSound_setMarker {s : State} (h : TrackerSound s) (hs : ¬untimed s) (t : Instant) : TrackerSound (setMarker s t) :=
  h.congr rfl .rfl (iff_of_false (Option.some_ne_none _) fun e => hs (h.2.2.1.1 e)) h.1 rfl rfl

/-- A frame begun in frame time, with marker timing anew. -/
theorem trackerSound_begun {s : State} (h : TrackerSound s) (hs : ¬untimed s) (f : Frame) (m : Bool) (t : Instant) :
    TrackerSound (setMarker (frameStart (installFrame (advanceCount s) f m)) t) := by
  have h0 : TrackerSound (advanceCount s) := h.setTracker rfl .rfl rfl h.1
  have hmark : ¬untimed (frameStart (installFrame (advanceCount s) f m)) := by
    rw [untimed, ftr_frameStart, ftr_installFrame]
    exact hs
  exact trackerSound_setMarker (trackerSound_frameStart (trackerSound_installFrame h0 hs f m)) hmark t

theorem trackerSound_unnamed {s : State} (h : TrackerSound s) (hs : ¬Timed s.ftr.sync) : TrackerSound (unnamed s) := by
  have e := ftr_unnamed s
  have hw := within_unnamed s
  refine ⟨?_, ?_, ?_, fun hh => ?_⟩
  · rw [e]
    exact h.1
  · simp [untimed, e]
  · simp [untimed, e]
  · have ht := h.2.2.2 (hw.held.symm.trans hh)
    rw [hw.statusTimer, e]
    exact ⟨fun k => absurd (ht.1 k) hs, fun k => by rcases k with k | k <;> cases k⟩

theorem trackerSound_beginUnnamed {s : State} (h : TrackerSound s) (hs : ¬Timed s.ftr.sync) : TrackerSound (beginUnnamed s) :=
  trackerSound_passHeld (trackerSound_unnamed h hs) _

theorem trackerSound_beginNamed {s : State} (h : TrackerSound s) (hs : ¬untimed s) (k : FrameKind) :
    TrackerSound (beginNamed s k) :=
  trackerSound_passHeld (trackerSound_begun h hs _ true _) _

theorem trackerSound_beginFlywheel {s : State} (h : TrackerSound s) (hs : Timed s.ftr.sync) (hw : s.ftr.flywheel < 42)
    (t : Instant) : TrackerSound (beginFlywheel s t) := by
  have h1 : TrackerSound (countFlywheel s) := by
    refine h.timed hs (.inr rfl) .rfl .rfl ?_ rfl rfl
    show (if s.ftr.nextEnded then s.ftr.flywheel else s.ftr.flywheel + 1) ≤ 42
    split <;> omega
  exact trackerSound_begun h1 (by simp [untimed, countFlywheel]) _ false _

theorem trackerSound_markerArrival {s : State} (h : TrackerSound s) : TrackerSound (markerArrival s) := by
  have he := trackerSound_endFrame h
  have hsync := sync_endFrame s
  unfold markerArrival
  split
  · exact trackerSound_beginUnnamed h (by simp [Timed, *])
  · exact trackerSound_beginUnnamed h (by simp [Timed, *])
  · exact keeps_ite (fun _ => trackerSound_beginUnnamed he (by simp [Timed, *])) fun _ => h
  · exact keeps_ite (fun _ => trackerSound_beginNamed he (by simp [untimed, *]) _) fun _ => h
  · exact keeps_ite (fun _ => h) fun _ => keeps_ite
      (fun _ => trackerSound_beginUnnamed (trackerSound_enterLost he) (by simp [Timed, sync_enterLost]))
      fun _ => trackerSound_beginNamed he (by simp [untimed, *]) _

theorem trackerSound_closeWindow {s : State} (h : TrackerSound s) (t : Instant) : TrackerSound (closeWindow s t) := by
  have he := trackerSound_endFrame h
  have hsync := sync_endFrame s
  unfold closeWindow
  split
  · exact h
  · exact h
  · exact trackerSound_returnToSearch h (by simp [Timed, *])
  · have h1 : TrackerSound (setTracker (endFrame s) { (endFrame s).ftr with flywheel := 0, nextEnded := false }) :=
      he.setTracker rfl .rfl rfl (Nat.zero_le _)
    exact trackerSound_beginFlywheel h1 (.inl (by simp [*])) (by simp) t
  · exact keeps_ite (fun _ => h) fun _ => keeps_ite (fun _ => trackerSound_enterLost he)
      fun hlt => trackerSound_beginFlywheel he (.inr (by simp [*])) (not_le.1 hlt) t

theorem trackerSound_payloadLaneGone {s : State} (h : TrackerSound s) : TrackerSound (payloadLaneGone s) := by
  unfold payloadLaneGone
  split
  · exact trackerSound_returnToSearch h (by simp [Timed, *])
  · exact trackerSound_endReception h ‹_›
  · exact h
  · exact h
  · exact h

theorem trackerSound_laneGone {s : State} (h : TrackerSound s) (i : LaneId) : TrackerSound (laneGone s i) :=
  keeps_ite (fun _ => trackerSound_payloadLaneGone (trackerSound_endControl h)) fun _ => keeps_ite
    (fun _ => trackerSound_payloadLaneGone h) fun _ => (trackerSound_endControl h).setControl _

theorem trackerSound_ensembleChange {s : State} (h : TrackerSound s) (id : EnsembleId) : TrackerSound (ensembleChange s id) := by
  have hw : Within [.mode, .scheduler, .arrivals, .store, .queue, .mapUnit, .table, .claims, .peers, .cursors, .releaseList,
      .slots, .tracker] s (retune (forgetEnsemble (abandonAll (enterDraining s))) id) :=
    (((within_enterDraining s).mono.trans (within_abandonAll _).mono).trans (within_forgetEnsemble _).mono).trans
      (within_setTracker _ _).mono
  unfold ensembleChange
  dsimp only
  refine TrackerSound.within ?_ (within_offerNotice _ _)
  split
  · refine ⟨Nat.zero_le _, ?_, ?_, fun _ => ?_⟩ <;> simp [untimed, startStatusTimer, retune, Tracker.reset]
  · rename_i hs
    have hs : ¬Timed s.ftr.sync := by simpa [Timed] using hs
    refine ⟨Nat.zero_le _, ?_, ?_, fun hh => ?_⟩
    · simp [untimed, retune, Tracker.reset]
    · simp [untimed, retune, Tracker.reset]
    · have ht := h.2.2.2 (hw.held.symm.trans hh)
      rw [hw.statusTimer]
      exact ⟨fun e => absurd (ht.1 e) hs, fun e => by rcases e with e | e <;> cases e⟩

theorem within_stuck (s : State) :
    Within [.line, .claims, .store, .queue, .counters, .mapUnit] s (setLink (enterFault (abortAttempt s) .stuck none)
      { (enterFault (abortAttempt s) .stuck none).lnk with stuck := true }) :=
  ((within_abortAttempt s).mono.trans (within_enterFault _ _ _).mono).trans (within_setLink _ _).mono

theorem within_join (s : State) :
    Within [.line, .queue, .table, .mode] s (endRestarting (spendMark (setLink s { s.lnk with state := .joined, joinTimer := none }))) :=
  ((within_setLink s _).mono.trans (within_spendMark _).mono).trans (within_endRestarting _).mono

theorem kept_trackerSound : Kept TrackerSound where
  steady hw _ h := h.within hw
  settled h := h.within (within_settleClaims _)
  lane i l _ h := h.within (within_setLane _ i l)
  gone i h := trackerSound_laneGone h i
  payloadWord w h := trackerSound_takePayloadWord h w
  controlWord w b h := trackerSound_takeControlWord h w b
  marker h := trackerSound_markerArrival h
  control x h := h.setControl x
  absent hs h := trackerSound_endReception h hs
  window m _ h := trackerSound_closeWindow h m
  payloadEnd h := trackerSound_endPayload h
  lost _ h := trackerSound_enterLost h
  releases _ h := h.setTracker rfl .rfl rfl h.1
  status d t hd h := by
    obtain ⟨h1, h2, h3, h4⟩ := h
    refine ⟨h1, h2, h3, fun hh => iff_of_false (Option.some_ne_none t) fun k => ?_⟩
    exact Option.some_ne_none d (hd.symm.trans ((h4 hh).2 k))
  attempt rejected h := h.within (within_endAttempt _ rejected)
  endSlot x h := h.within (within_setEndSlot _ x)
  abort h := h.within (within_abortAttempt _)
  duplicate h := h.within (within_duplicateFault _)
  stuck _ h := h.within (within_stuck _)
  recessive _ h := h.within (within_setLink _ _)
  listening _ _ h := h.within (within_enterListening _)
  joined _ h := h.within (within_join _)
  statusHeard m h := h.within (within_hearStatus _ m)
  noticeHeard n h := h.within (within_hearNotice _ n)
  subscribed e h := h.within (within_applySubscribe _ e)
  released x c h := h.within (within_applyRelease _ x c)
  changed id h := trackerSound_ensembleChange h id
  restarted h := h.within (within_restart _)
  quiesced h := h.within (within_quiesce _)
  resumed h := h.within (within_resume _)

/-! ### The laws of the device mode (R176, R179) -/

theorem ModeSound.congr {a b : State} (h : ModeSound a) (hm : b.mod.mode = a.mod.mode)
    (hr : b.mod.returnMode = a.mod.returnMode) (hl : b.lnk.state = .joined → a.lnk.state = .joined) : ModeSound b := by
  obtain ⟨h1, h2, h3⟩ := h
  unfold ModeSound
  rw [hm, hr]
  exact ⟨h1, h2, fun k => h3 (hl k)⟩

theorem ModeSound.within {ps : List Part} {a b : State} (h : ModeSound a) (hw : Within ps a b)
    (hm : Part.mode ∉ ps := by decide) (hl : Part.line ∉ ps := by decide) : ModeSound b :=
  h.congr (hw.mode hm) (hw.returnMode hm) (by rw [hw.linkState hl]; exact id)

/-- The link may come into any state but JOINED. -/
theorem ModeSound.setLink {s : State} (h : ModeSound s) {l : Link} (hl : l.state = .joined → s.lnk.state = .joined) :
    ModeSound (Machine.setLink s l) := h.congr rfl rfl hl

theorem ModeSound.returnMode_none {s : State} (h : ModeSound s) (hm : s.mod.mode ≠ .draining) : s.mod.returnMode = none := by
  cases hr : s.mod.returnMode with
  | none => rfl
  | some m => exact absurd (h.1.1 (by rw [hr]; rfl)) hm

/-- Outside DRAINING no return mode is held, and a mode other than RESTARTING suits every link state. -/
theorem modeSound_of_mode {s : State} (hr : s.mod.returnMode = none) (hd : s.mod.mode ≠ .draining)
    (hj : s.lnk.state = .joined → s.mod.mode ≠ .restarting) : ModeSound s := by
  refine ⟨?_, ?_, fun k => ⟨hj k, ?_⟩⟩ <;> simp [hr, hd]

theorem modeSound_enterQuiesced {s : State} (hr : s.mod.returnMode = none) : ModeSound (enterQuiesced s) := by
  have h1 : ModeSound (setMode s .quiesced) := modeSound_of_mode hr (by simp) (by simp)
  exact (h1.within (within_clearQueue _ _)).within (within_settleClaims _)

theorem modeSound_endDraining {s : State} (h : ModeSound s) : ModeSound (endDraining s) := by
  obtain ⟨h1, h2, h3⟩ := h
  have h4 : ModeSound (leaveDraining s (s.mod.returnMode.getD .running)) := by
    refine modeSound_of_mode rfl ?_ fun k => ?_
    · show s.mod.returnMode.getD .running ≠ .draining
      cases hr : s.mod.returnMode with
      | none => simp
      | some m => simpa [hr] using h2
    · have h3 := (h3 k).2
      show s.mod.returnMode.getD .running ≠ .restarting
      cases hr : s.mod.returnMode with
      | none => simp
      | some m => simpa [hr] using h3
  unfold endDraining
  dsimp only
  split
  · exact modeSound_enterQuiesced rfl
  · exact h4.within (within_offerNotice _ _)
  · exact h4

theorem modeSound_offLine {s : State} (h : ModeSound s) : ModeSound (offLine s) := h.setLink id

theorem modeSound_failAttempt {s : State} (h : ModeSound s) (a : Attempt) : ModeSound (failAttempt s a) := by
  have h1 := modeSound_offLine h
  unfold failAttempt
  dsimp only
  split
  · exact h1
  · exact keeps_ite (fun _ => h1.within (within_updateEntry _ _ _)) fun _ => keeps_ite
      (fun _ => ((h1.within (within_removeEntry _ _)).within (within_countLinkDrop _)).within (within_tellOwner _ _))
      fun _ => h1.within (within_updateEntry _ _ _)

theorem modeSound_entrySent {s : State} (h : ModeSound s) (e : Entry) : ModeSound (entrySent s e) := by
  have h1 := (h.within (within_removeEntry s e.uid)).within (within_tellOwner _ e)
  exact keeps_ite (fun _ => modeSound_endDraining h1) fun _ => keeps_ite
    (fun g => modeSound_enterQuiesced (h1.returnMode_none (by simp [g.2]))) fun _ => h1

theorem modeSound_completeAttempt {s : State} (h : ModeSound s) (a : Attempt) : ModeSound (completeAttempt s a) := by
  have h1 := modeSound_offLine h
  unfold completeAttempt
  dsimp only
  split
  · exact h1.within (within_resolve _ _ _ _)
  · exact h1.within (within_resolve _ _ _ _)
  · split
    · exact h1
    · exact keeps_ite (fun _ => h1.within (within_updateEntry _ _ _)) fun _ => modeSound_entrySent h1 _

theorem modeSound_endAttempt {s : State} (h : ModeSound s) (rejected : Bool) : ModeSound (endAttempt s rejected) := by
  unfold endAttempt
  split
  · exact h
  · exact keeps_ite (fun _ => modeSound_failAttempt h _) fun _ => modeSound_completeAttempt h _

theorem modeSound_abortAttempt {s : State} (h : ModeSound s) : ModeSound (abortAttempt s) := by
  unfold abortAttempt
  split
  · exact h
  · exact modeSound_failAttempt h _

theorem modeSound_enterFault {s : State} (h : ModeSound s) (r : FaultRecord) (x : Option Instant) :
    ModeSound (enterFault s r x) := by
  have h1 : ModeSound (setLink s { s.lnk with state := .fault, faultRecord := r, joinTimer := none, recoveryTimer := x }) :=
    h.setLink (by simp)
  exact h1.within (within_settleClaims _)

theorem modeSound_duplicateFault {s : State} (h : ModeSound s) : ModeSound (duplicateFault s) :=
  keeps_ite (fun _ => h) fun _ => keeps_ite (fun _ => (modeSound_enterFault h _ _).setLink id) fun _ =>
    (modeSound_enterFault h _ _).setLink id

theorem modeSound_enterListening {s : State} (h : ModeSound s) : ModeSound (enterListening s) := by
  have h1 : ModeSound (setLink s { s.lnk with state := .listening, joinTimer := some (s.now + joinTime), recoveryTimer := none,
                                              receivingFrom := s.now }) := h.setLink (by simp)
  exact (h1.within (within_armAdoption _)).within (within_settleClaims _)

theorem modeSound_join {s : State} (h : ModeSound s) :
    ModeSound (endRestarting (spendMark (setLink s { s.lnk with state := .joined, joinTimer := none }))) := by
  obtain ⟨h1, h2, -⟩ := h
  have e : (endRestarting (spendMark (setLink s { s.lnk with state := .joined, joinTimer := none }))).mod =
      { s.mod with
        mode := if s.mod.mode = .restarting then .running else s.mod.mode
        returnMode := if s.mod.mode = .draining ∧ s.mod.returnMode = some .restarting then some .running
          else s.mod.returnMode } := rfl
  unfold ModeSound
  rw [e]
  dsimp only
  by_cases hm : s.mod.mode = .restarting
  · have hn : s.mod.returnMode = none := by simpa [hm] using h1
    simp [hm, hn]
  · by_cases hd : s.mod.mode = .draining
    · by_cases hr : s.mod.returnMode = some .restarting
      · simp [hd, hr]
      · have hn : s.mod.returnMode.isSome = true := h1.2 hd
        simp [hd, hr, hn, h2]
    · have hn : s.mod.returnMode = none := by simpa [hd] using h1
      simp [hm, hd, hn]

theorem modeSound_ensembleChange {s : State} (h : ModeSound s) (id : EnsembleId) : ModeSound (ensembleChange s id) := by
  obtain ⟨h1, h2, h3⟩ := h
  have h4 : ModeSound (enterDraining s) := by
    refine ⟨?_, ?_, fun k => ⟨by simp [enterDraining], ?_⟩⟩ <;> simp only [enterDraining, drainReturn] <;> split
    · rename_i hd
      simpa [hd] using h1
    · simp
    · exact h2
    · simpa using ‹_›
    · exact (h3 k).2
    · simpa using (h3 k).1
  have h5 : ModeSound (retune (forgetEnsemble (abandonAll (enterDraining s))) id) :=
    ((h4.within (within_abandonAll _)).within (within_forgetEnsemble _)).within (within_setTracker _ _)
  unfold ensembleChange
  refine ModeSound.within ?_ (within_offerNotice _ _)
  exact keeps_ite (fun _ => h5.within (within_setStatusTimer _ _)) fun _ => h5

theorem linkState_relisten (s : State) : (relisten s).lnk.state ≠ .joined := by
  unfold relisten
  split
  · have e : (enterListening s).lnk.state = .listening := by
      unfold enterListening
      rw [(within_settleClaims _).linkState]
      rfl
    rw [e]
    simp
  · simp [armAdoption, *]
  · simp [*]
  · simp [*]

theorem modeSound_restart {s : State} (h : ModeSound s) : ModeSound (restart s) := by
  refine keeps_ite (fun _ => h) fun hd => ?_
  have hw : Within [.scheduler, .store, .queue, .mapUnit, .claims, .line, .table] (setMode s .restarting)
      (relisten (settleClaims (restartMaps (clearQueue (emptyStore (stopEngines (setMode s .restarting))) isStatusEntry)))) :=
    ((((within_stopEngines _).mono.trans (within_emptyStore _).mono).trans (within_clearQueue _ _).mono).trans
      ((within_setMaps _ _).mono.trans (within_settleClaims _).mono)).trans (within_relisten _).mono
  refine ModeSound.within ?_ (within_restartPass _)
  refine modeSound_of_mode ?_ ?_ fun k => absurd k (linkState_relisten _)
  · rw [hw.returnMode]
    exact h.returnMode_none hd
  · rw [hw.mode]
    simp

theorem modeSound_quiesce {s : State} (h : ModeSound s) : ModeSound (quiesce s) := by
  refine keeps_ite (fun hm => ?_) fun _ => h
  have h1 : ModeSound (setMode s .quiescing) := modeSound_of_mode (h.returnMode_none (by simp [hm])) (by simp) (by simp)
  exact ((((h1.within (within_quiesceJobs _)).within (within_withdraw _ _)).within (within_emptyStore _)).within
    (within_settleClaims _)).within (within_reportIdle _)

theorem modeSound_resumeWork {s : State} (hr : s.mod.returnMode = none) : ModeSound (resumeWork s) := by
  have h1 : ModeSound (setMode s .running) := modeSound_of_mode hr (by simp) (by simp)
  exact ((h1.within (within_resumeContexts _)).within (within_withdraw _ _)).within
    ((within_testNotice _).mono.trans (within_settleJobs _).mono : Within [.scheduler, .store, .queue, .counters, .mapUnit] _ _)

theorem modeSound_resume {s : State} (h : ModeSound s) : ModeSound (resume s) := by
  unfold resume
  split
  · exact modeSound_resumeWork (h.returnMode_none (by simp [*]))
  · exact modeSound_resumeWork (h.returnMode_none (by simp [*]))
  · rename_i hd
    refine keeps_ite (fun _ => ?_) fun _ => h
    refine ⟨?_, ?_, fun k => ⟨?_, ?_⟩⟩ <;> simp [hd]
  · exact h
  · exact h

theorem modeSound_contend {s : State} (h : ModeSound s) (rivals : List ArbField) : ModeSound (contend s rivals) := by
  unfold contend
  refine keeps_ite (fun _ => h) fun _ => ?_
  split
  · exact h
  · exact keeps_ite (fun _ => h.setLink id) fun _ => h

theorem kept_modeSound : Kept ModeSound where
  steady hw _ h := h.within hw
  settled h := h.within (within_settleClaims _)
  lane i l _ h := h.within (within_setLane _ i l)
  gone i h := h.within (within_laneGone _ i)
  payloadWord w h := h.within (within_takePayloadWord _ w)
  controlWord w b h := h.within (within_takeControlWord _ w b)
  marker h := h.within (within_markerArrival _)
  control x h := h.within (within_setControl _ x)
  absent _ h := h.within (within_endReception _)
  window m _ h := h.within (within_closeWindow _ m)
  payloadEnd h := h.within (within_endPayload _)
  lost _ h := h.within (within_enterLost _)
  releases _ h := h.within (within_setTracker _ _)
  status _ _ _ h := h.within (within_setStatusTimer _ _)
  attempt rejected h := modeSound_endAttempt h rejected
  endSlot _ h := h.setLink id
  abort h := modeSound_abortAttempt h
  duplicate h := modeSound_duplicateFault h
  stuck _ h := (modeSound_enterFault (modeSound_abortAttempt h) _ _).setLink id
  recessive _ h := h.setLink id
  listening _ _ h := modeSound_enterListening h
  joined _ h := modeSound_join h
  statusHeard m h := h.within (within_hearStatus _ m)
  noticeHeard n h := h.within (within_hearNotice _ n)
  subscribed e h := h.within (within_applySubscribe _ e)
  released x c h := h.within (within_applyRelease _ x c)
  changed id h := modeSound_ensembleChange h id
  restarted h := modeSound_restart h
  quiesced h := modeSound_quiesce h
  resumed h := modeSound_resume h

/-! ### Lane 1 in single-lane mode (R2) -/

theorem LanesSound.within {ps : List Part} {a b : State} (h : LanesSound a) (hw : Within ps a b)
    (hl : Part.lanes ∉ ps := by decide) (hs : Part.straps ∉ ps := by decide) : LanesSound b := by
  unfold LanesSound laneOf
  rw [hw.straps hs, hw.lanes hl]
  exact h

theorem laneOf_setLane (s : State) (i j : LaneId) (l : Lane) :
    laneOf (setLane s i l) j = if j = i then l else laneOf s j := by
  show (s.lanes.set i l).get j = _
  by_cases h : j = i
  · subst h
    simp [Vector.get_eq_getElem]
  · rw [if_neg h]
    simp [Vector.get_eq_getElem, Vector.getElem_set_ne _ _ (fun hv => h (Fin.ext hv).symm), laneOf]

theorem lanesSound_setLane {s : State} (h : LanesSound s) {i : LaneId} (hi : (laneOf s i).state ≠ .off) (l : Lane) :
    LanesSound (setLane s i l) := by
  intro hs
  rw [laneOf_setLane]
  split
  · rename_i hj
    exact absurd (hj ▸ h hs) hi
  · exact h hs

theorem kept_lanesSound : Kept LanesSound where
  steady hw _ h := h.within hw
  settled h := h.within (within_settleClaims _)
  lane _ l hon h := lanesSound_setLane h hon l
  gone i h := h.within (within_laneGone _ i)
  payloadWord w h := h.within (within_takePayloadWord _ w)
  controlWord w b h := h.within (within_takeControlWord _ w b)
  marker h := h.within (within_markerArrival _)
  control x h := h.within (within_setControl _ x)
  absent _ h := h.within (within_endReception _)
  window m _ h := h.within (within_closeWindow _ m)
  payloadEnd h := h.within (within_endPayload _)
  lost _ h := h.within (within_enterLost _)
  releases _ h := h.within (within_setTracker _ _)
  status _ _ _ h := h.within (within_setStatusTimer _ _)
  attempt rejected h := h.within (within_endAttempt _ rejected)
  endSlot x h := h.within (within_setEndSlot _ x)
  abort h := h.within (within_abortAttempt _)
  duplicate h := h.within (within_duplicateFault _)
  stuck _ h := h.within (within_stuck _)
  recessive _ h := h.within (within_setLink _ _)
  listening _ _ h := h.within (within_enterListening _)
  joined _ h := h.within (within_join _)
  statusHeard m h := h.within (within_hearStatus _ m)
  noticeHeard n h := h.within (within_hearNotice _ n)
  subscribed e h := h.within (within_applySubscribe _ e)
  released x c h := h.within (within_applyRelease _ x c)
  changed id h := h.within (within_ensembleChange _ id)
  restarted h := h.within (within_restart _)
  quiesced h := h.within (within_quiesce _)
  resumed h := h.within (within_resume _)

/-! ### Reset, and every step -/

theorem trackerSound_reset (now : Instant) (straps : Straps) (pending : List Instr) :
    TrackerSound (State.afterPinReset now straps pending) := by
  refine ⟨Nat.zero_le _, ?_, ?_, fun _ => ?_⟩ <;> simp [State.afterPinReset, untimed, Tracker.reset, Control.reset]

theorem trackerSound_held (s : State) (now : Instant) : TrackerSound (heldState s now) := by
  refine ⟨Nat.zero_le _, ?_, ?_, fun h => ?_⟩
  · simp [heldState, State.afterPinReset, untimed, Tracker.reset]
  · simp [heldState, State.afterPinReset, untimed, Tracker.reset]
  · cases h

theorem modeSound_reset (now : Instant) (straps : Straps) (pending : List Instr) :
    ModeSound (State.afterPinReset now straps pending) :=
  modeSound_of_mode rfl (by simp [State.afterPinReset, Control.reset]) (by simp [State.afterPinReset, Control.reset])

theorem modeSound_held (s : State) (now : Instant) : ModeSound (heldState s now) :=
  modeSound_of_mode rfl (by simp [heldState, State.afterPinReset, Control.reset])
    (by simp [heldState, State.afterPinReset, Control.reset])

theorem lanesSound_reset (now : Instant) (straps : Straps) (pending : List Instr) :
    LanesSound (State.afterPinReset now straps pending) := by
  intro h
  have h : straps.singleLane = true := h
  show (if straps.singleLane then Lane.held else Lane.enabled now).state = .off
  rw [if_pos h]
  rfl

/-- Settles O59: each of the three laws is kept by the operations. -/
theorem stepKeepsTrackerAndModeSound : Obligations.StepKeepsTrackerAndModeSound := fun _ _ ht hm hl h =>
  ⟨kept_trackerSound.step (fun rivals h => h.within (within_contend _ rivals)) trackerSound_held trackerSound_reset ht h,
   kept_modeSound.step (fun rivals h => modeSound_contend h rivals) modeSound_held modeSound_reset hm h,
   kept_lanesSound.step (fun rivals h => h.within (within_contend _ rivals)) (fun _ _ _ => rfl) lanesSound_reset hl h⟩

end Sys2Proof.Machine

/-! PROOFS. O40, O41, O60: attempts, faults, and the laws at reset. -/

namespace Sys2Proof.Machine

-- one theorem at a time: elaborated side by side, they would hold more threads than the check allows
set_option Elab.async false

/-! ### Attempts on the line (R117, R121) -/

/-- No attempt is on the line. -/
def LineFree (s : State) : Prop := s.lnk.attempt = none

theorem LineFree.within {ps : List Part} {a b : State} (h : LineFree a) (hw : Within ps a b)
    (hl : Part.line ∉ ps := by decide) : LineFree b := (hw.attempt hl).trans h

theorem LineFree.setLink {s : State} (h : LineFree s) {l : Link} (hl : l.attempt = s.lnk.attempt) :
    LineFree (Machine.setLink s l) := hl.trans h

theorem LineFree.endAttempt {s : State} (h : LineFree s) (rejected : Bool) : LineFree (endAttempt s rejected) := by
  have h0 : s.lnk.attempt = none := h
  rw [Machine.endAttempt, h0]
  exact h

theorem LineFree.abortAttempt {s : State} (h : LineFree s) : LineFree (abortAttempt s) := by
  have h0 : s.lnk.attempt = none := h
  rw [Machine.abortAttempt, h0]
  exact h

theorem LineFree.enterFault {s : State} (h : LineFree s) (r : FaultRecord) (x : Option Instant) : LineFree (enterFault s r x) := by
  have h1 : LineFree (Machine.setLink s { s.lnk with state := .fault, faultRecord := r, joinTimer := none, recoveryTimer := x }) := h
  exact h1.within (within_settleClaims _)

theorem LineFree.duplicateFault {s : State} (h : LineFree s) : LineFree (duplicateFault s) :=
  keeps_ite (fun _ => h) fun _ => keeps_ite (fun _ => (h.enterFault _ _).setLink rfl) fun _ => (h.enterFault _ _).setLink rfl

theorem LineFree.enterListening {s : State} (h : LineFree s) : LineFree (enterListening s) := by
  have h1 : LineFree (Machine.setLink s { s.lnk with state := .listening, joinTimer := some (s.now + joinTime),
                                                     recoveryTimer := none, receivingFrom := s.now }) := h
  exact (h1.within (within_armAdoption _)).within (within_settleClaims _)

theorem LineFree.relisten {s : State} (h : LineFree s) : LineFree (relisten s) := by
  unfold Machine.relisten
  split
  · exact h.enterListening
  · exact h
  · exact h
  · exact h

theorem LineFree.restart {s : State} (h : LineFree s) : LineFree (restart s) := by
  refine keeps_ite (fun _ => h) fun _ => ?_
  have hw : Within [.mode, .scheduler, .store, .queue, .mapUnit, .claims] s
      (settleClaims (restartMaps (clearQueue (emptyStore (stopEngines (setMode s .restarting))) isStatusEntry))) :=
    (((within_setMode s _).mono.trans (within_stopEngines _).mono).trans
      ((within_emptyStore _).mono.trans (within_clearQueue _ _).mono)).trans
        ((within_setMaps _ _).mono.trans (within_settleClaims _).mono)
  exact (h.within hw).relisten.within (within_restartPass _)

theorem kept_lineFree : Kept LineFree where
  steady hw _ h := h.within hw
  settled h := h.within (within_settleClaims _)
  lane i l _ h := h.within (within_setLane _ i l)
  gone i h := h.within (within_laneGone _ i)
  payloadWord w h := h.within (within_takePayloadWord _ w)
  controlWord w b h := h.within (within_takeControlWord _ w b)
  marker h := h.within (within_markerArrival _)
  control x h := h.within (within_setControl _ x)
  absent _ h := h.within (within_endReception _)
  window m _ h := h.within (within_closeWindow _ m)
  payloadEnd h := h.within (within_endPayload _)
  lost _ h := h.within (within_enterLost _)
  releases _ h := h.within (within_setTracker _ _)
  status _ _ _ h := h.within (within_setStatusTimer _ _)
  attempt rejected h := h.endAttempt rejected
  endSlot _ h := h
  abort h := h.abortAttempt
  duplicate h := h.duplicateFault
  stuck _ h := (h.abortAttempt.enterFault _ _).setLink rfl
  recessive _ h := h
  listening _ _ h := h.enterListening
  joined _ h := h
  statusHeard m h := h.within (within_hearStatus _ m)
  noticeHeard n h := h.within (within_hearNotice _ n)
  subscribed e h := h.within (within_applySubscribe _ e)
  released x c h := h.within (within_applyRelease _ x c)
  changed id h := h.within (within_ensembleChange _ id)
  restarted h := h.restart
  quiesced h := h.within (within_quiesce _)
  resumed h := h.within (within_resume _)

theorem contend_of_not_joined {s : State} (h : s.lnk.state ≠ .joined) (rivals : List ArbField) : contend s rivals = s := by
  rw [contend, if_pos (.inl h)]

/-- Settles O40: every other command leaves a free line free. -/
theorem attemptsOnlyByJoinedContention : Obligations.AttemptsOnlyByJoinedContention := by
  intro s u c h hs hu
  have hfree (k : LineFree u) : False := by
    have k : u.lnk.attempt = none := k
    rw [k] at hu
    cases hu
  by_cases hpin : isPinReset c = true
  · cases c with
    | pinResetAssert t => cases h; exact (hfree rfl).elim
    | pinResetRelease t straps => cases h; exact (hfree rfl).elim
    | _ => cases hpin
  have hpin : isPinReset c = false := by simpa using hpin
  cases hh : s.held with
  | true =>
    rw [exec_held hh hpin] at h
    cases h
    exact (hfree hs).elim
  | false =>
    by_cases hc : ∃ t rivals, c = .contention t rivals
    · refine ⟨?_, rfl, hc⟩
      obtain ⟨t, rivals, rfl⟩ := hc
      by_contra hj
      have e : exec (.contention t rivals) s = .next (live t s fun s => contend s rivals) := rfl
      rw [e, live_awake hh, contend_of_not_joined (s := s.clocked t) hj rivals] at h
      cases h
      exact hfree (LineFree.within hs ((within_clocked s t).mono.trans (within_settleClaims _).mono : Within [.time, .claims] _ _))
    · exact (hfree (kept_lineFree.exec hpin (fun t rivals e => absurd ⟨t, rivals, e⟩ hc) h hs)).elim

/-! ### Faults (R123, R124) -/

theorem Within.recoveryTimer {ps : List Part} {a b : State} (h : Within ps a b) (hp : Part.line ∉ ps := by decide) :
    b.lnk.recoveryTimer = a.lnk.recoveryTimer := by
  have e := congrArg Link.recoveryTimer (h.line hp)
  exact e

/-- The law of permanent FAULT, and what of the faults of `s` outlasts the commands that lead to `u`. -/
def FaultKept (s u : State) : Prop :=
  FaultSound u ∧ (s.lnk.permanent = true → u.lnk.permanent = true) ∧ (s.lnk.faultRecord ≠ .none → u.lnk.faultRecord ≠ .none)

section

variable {o s : State} (h : FaultKept o s)
include h

theorem FaultKept.setLink {l : Link} (hs : l.state = s.lnk.state) (hp : l.permanent = s.lnk.permanent)
    (hr : l.faultRecord = s.lnk.faultRecord) (ht : l.recoveryTimer = s.lnk.recoveryTimer) :
    FaultKept o (Machine.setLink s l) := by
  unfold FaultKept FaultSound
  simp only [setLink_lnk, hs, hp, hr, ht]
  exact h

theorem FaultKept.within {ps : List Part} {b : State} (hw : Within ps s b) (hl : Part.line ∉ ps := by decide) :
    FaultKept o b := by
  unfold FaultKept FaultSound
  rw [hw.linkState hl, hw.permanent hl, hw.faultRecord hl, hw.recoveryTimer hl]
  exact h

/-- A link that is not in permanent FAULT may change its state and its timers, and its record to another fault. -/
theorem FaultKept.relink (hn : s.lnk.permanent = false) {l : Link} (hp : l.permanent = false)
    (hr : l.faultRecord = s.lnk.faultRecord ∨ l.faultRecord ≠ .none) : FaultKept o (Machine.setLink s l) := by
  obtain ⟨-, h2, h3⟩ := h
  refine ⟨fun k => ?_, fun k => ?_, fun k => ?_⟩
  · exact absurd (hp.symm.trans k) (by simp)
  · exact absurd (hn.symm.trans (h2 k)) (by simp)
  · rcases hr with hr | hr
    · show l.faultRecord ≠ .none
      rw [hr]
      exact h3 k
    · exact hr

theorem FaultKept.not_permanent (hs : s.lnk.state ≠ .fault) : s.lnk.permanent = false := by
  by_contra hp
  exact hs (h.1 (by simpa using hp)).1

theorem FaultKept.offLine : FaultKept o (Machine.offLine s) := h.setLink rfl rfl rfl rfl

theorem FaultKept.failAttempt (a : Attempt) : FaultKept o (failAttempt s a) := by
  have h1 := h.offLine
  unfold Machine.failAttempt
  dsimp only
  split
  · exact h1
  · exact keeps_ite (fun _ => h1.within (within_updateEntry _ _ _)) fun _ => keeps_ite
      (fun _ => ((h1.within (within_removeEntry _ _)).within (within_countLinkDrop _)).within (within_tellOwner _ _))
      fun _ => h1.within (within_updateEntry _ _ _)

theorem FaultKept.completeAttempt (a : Attempt) : FaultKept o (completeAttempt s a) := by
  have h1 := h.offLine
  unfold Machine.completeAttempt
  dsimp only
  split
  · exact h1.within (within_resolve _ _ _ _)
  · exact h1.within (within_resolve _ _ _ _)
  · split
    · exact h1
    · exact keeps_ite (fun _ => h1.within (within_updateEntry _ _ _)) fun _ => h1.within (within_entrySent _ _)

theorem FaultKept.endAttempt (rejected : Bool) : FaultKept o (endAttempt s rejected) := by
  unfold Machine.endAttempt
  split
  · exact h
  · exact keeps_ite (fun _ => h.failAttempt _) fun _ => h.completeAttempt _

theorem FaultKept.abortAttempt : FaultKept o (abortAttempt s) := by
  unfold Machine.abortAttempt
  split
  · exact h
  · exact h.failAttempt _

omit h in
theorem permanent_failAttempt (s : State) (a : Attempt) : (Machine.failAttempt s a).lnk.permanent = s.lnk.permanent := by
  unfold Machine.failAttempt
  dsimp only
  split
  · rfl
  · split
    · exact (within_updateEntry _ _ _).permanent
    · split
      · exact (((within_removeEntry _ _).mono.trans (within_countLinkDrop _).mono).trans (within_tellOwner _ _).mono :
          Within [.queue, .counters, .store, .mapUnit] _ _).permanent
      · exact (within_updateEntry _ _ _).permanent

omit h in
theorem permanent_abortAttempt (s : State) : (Machine.abortAttempt s).lnk.permanent = s.lnk.permanent := by
  unfold Machine.abortAttempt
  split
  · rfl
  · exact permanent_failAttempt _ _

theorem FaultKept.enterFault (hn : s.lnk.permanent = false) {r : FaultRecord} (hr : r ≠ .none) (x : Option Instant) :
    FaultKept o (enterFault s r x) ∧ (enterFault s r x).lnk.permanent = false := by
  have h1 : FaultKept o
      (Machine.setLink s { s.lnk with state := .fault, faultRecord := r, joinTimer := none, recoveryTimer := x }) :=
    h.relink hn hn (.inr hr)
  refine ⟨h1.within (within_settleClaims _), ?_⟩
  unfold Machine.enterFault
  rw [(within_settleClaims _).permanent]
  exact hn

theorem FaultKept.duplicateFault : FaultKept o (duplicateFault s) := by
  refine keeps_ite (fun _ => h) fun hn => ?_
  have hn : s.lnk.permanent = false := by
    by_contra hp
    exact hn (.inr (by simpa using hp))
  refine keeps_ite (fun _ => ?_) fun _ => ?_
  · obtain ⟨h1, -⟩ := h.enterFault hn (r := .duplicate) (by simp) none
    have hw := within_settleClaims (Machine.setLink s { s.lnk with
      state := .fault, faultRecord := .duplicate, joinTimer := none, recoveryTimer := none })
    exact ⟨fun _ => ⟨hw.linkState, hw.faultRecord, hw.recoveryTimer⟩, fun _ => rfl, h1.2.2⟩
  · obtain ⟨h1, hp⟩ := h.enterFault hn (r := .duplicate) (by simp) (some (s.now + recoveryTime))
    exact h1.relink hp hp (.inl rfl)

theorem FaultKept.enterListening (hn : s.lnk.permanent = false) : FaultKept o (enterListening s) := by
  have h1 : FaultKept o (Machine.setLink s { s.lnk with state := .listening, joinTimer := some (s.now + joinTime),
                                                        recoveryTimer := none, receivingFrom := s.now }) :=
    h.relink hn hn (.inl rfl)
  exact (h1.within (within_armAdoption _)).within (within_settleClaims _)

theorem FaultKept.relisten : FaultKept o (relisten s) := by
  unfold Machine.relisten
  split
  · exact h.enterListening (h.not_permanent (by simp [*]))
  · have h1 : FaultKept o (Machine.setLink s { s.lnk with joinTimer := some (s.now + joinTime) }) := h.setLink rfl rfl rfl rfl
    exact h1.within (within_armAdoption _)
  · exact h
  · exact h

theorem FaultKept.restart : FaultKept o (restart s) := by
  refine keeps_ite (fun _ => h) fun _ => ?_
  have hw : Within [.mode, .scheduler, .store, .queue, .mapUnit, .claims] s
      (settleClaims (restartMaps (clearQueue (emptyStore (stopEngines (setMode s .restarting))) isStatusEntry))) :=
    (((within_setMode s _).mono.trans (within_stopEngines _).mono).trans
      ((within_emptyStore _).mono.trans (within_clearQueue _ _).mono)).trans
        ((within_setMaps _ _).mono.trans (within_settleClaims _).mono)
  exact (h.within hw).relisten.within (within_restartPass _)

theorem FaultKept.contend (rivals : List ArbField) : FaultKept o (contend s rivals) := by
  unfold Machine.contend
  refine keeps_ite (fun _ => h) fun _ => ?_
  split
  · exact h
  · exact keeps_ite (fun _ => h.setLink rfl rfl rfl rfl) fun _ => h

end

theorem kept_faultKept (o : State) : Kept (FaultKept o) where
  steady hw _ h := h.within hw
  settled h := h.within (within_settleClaims _)
  lane i l _ h := h.within (within_setLane _ i l)
  gone i h := h.within (within_laneGone _ i)
  payloadWord w h := h.within (within_takePayloadWord _ w)
  controlWord w b h := h.within (within_takeControlWord _ w b)
  marker h := h.within (within_markerArrival _)
  control x h := h.within (within_setControl _ x)
  absent _ h := h.within (within_endReception _)
  window m _ h := h.within (within_closeWindow _ m)
  payloadEnd h := h.within (within_endPayload _)
  lost _ h := h.within (within_enterLost _)
  releases _ h := h.within (within_setTracker _ _)
  status _ _ _ h := h.within (within_setStatusTimer _ _)
  attempt rejected h := h.endAttempt rejected
  endSlot _ h := h.setLink rfl rfl rfl rfl
  abort h := h.abortAttempt
  duplicate h := h.duplicateFault
  stuck hn h := by
    have hp : (abortAttempt _).lnk.permanent = false := (permanent_abortAttempt _).trans hn
    obtain ⟨h1, hp⟩ := h.abortAttempt.enterFault hp (r := .stuck) (by simp) none
    exact h1.relink hp hp (.inl rfl)
  recessive hn h := h.relink hn hn (.inl rfl)
  listening _ hn h := h.enterListening hn
  joined {s} hl h := by
    have hn : s.lnk.permanent = false := h.not_permanent (by simp [hl])
    have h1 : FaultKept o (setLink s { s.lnk with state := .joined, joinTimer := none }) := h.relink hn hn (.inl rfl)
    exact (h1.within (within_spendMark _)).within (within_endRestarting _)
  statusHeard m h := h.within (within_hearStatus _ m)
  noticeHeard n h := h.within (within_hearNotice _ n)
  subscribed e h := h.within (within_applySubscribe _ e)
  released x c h := h.within (within_applyRelease _ x c)
  changed id h := h.within (within_ensembleChange _ id)
  restarted h := h.restart
  quiesced h := h.within (within_quiesce _)
  resumed h := h.within (within_resume _)

/-- Settles O41: no operation ends a permanent FAULT or takes a fault record away. -/
theorem faultsOutlastAllButPinReset : Obligations.FaultsOutlastAllButPinReset := fun s _ _ hs hc h =>
  (kept_faultKept s).exec hc (fun _ rivals _ _ h => h.contend rivals) h ⟨hs, id, id⟩

/-! ### Reset -/

/-- Settles O60: every table is empty at reset. -/
theorem resetIsSound : Obligations.ResetIsSound := by
  obtain ⟨hclasses, hclaims⟩ := claimsSound_of_empty (s := State.reset) rfl rfl rfl rfl rfl
  exact ⟨queueSound_of_empty rfl, pagesSound_of_reset rfl, memorySound_of_reset rfl,
    jobsSound_of_none rfl (reset_idle _ _ _), hclasses, hclaims, cursorsSound_of_empty rfl rfl rfl,
    answersSound_of_empty rfl, trackerSound_reset _ _ _, modeSound_reset _ _ _, lanesSound_reset _ _ _,
    fun h => absurd h (by simp [State.reset, State.afterPinReset, Link.reset])⟩

end Sys2Proof.Machine

/-! PROOFS. O1, O3 to O6, O8, O18, O35, O39, O44: steps, pin reset, lanes, and commands that read a timer. -/

namespace Sys2Proof.Machine

-- one theorem at a time: elaborated side by side, they would hold more threads than the check allows
set_option Elab.async false

/-! ### The course of a command -/

/-- What a command of an awake part answers, from what its function makes of the state that it finds. -/
theorem exec_eq {c : Instr} {s u : State} {t : Instant} {f : State → State} (hs : Awake s)
    (he : exec c s = .next (live t s f)) (hf : f (s.clocked t) = u) (hu : Settled u) : exec c s = .next u := by
  rw [he, live_eq hs hf hu]

theorem settled_clocked {s : State} (h : Awake s) (t : Instant) : Settled (s.clocked t) := h.2.within (within_clocked s t)

theorem settled_setLane {s : State} (h : Awake s) (t : Instant) (i : LaneId) (l : Lane) :
    Settled (setLane (s.clocked t) i l) := (settled_clocked h t).within (within_setLane _ i l)

theorem settled_setEndSlot {s : State} (h : Awake s) (t : Instant) (x : EndSlot) : Settled (setEndSlot (s.clocked t) x) :=
  h.2.congr rfl rfl rfl rfl rfl rfl

theorem due_of_le {s : State} {t d : Instant} (h : d ≤ max s.now t) : due (s.clocked t) (some d) = true := by
  simpa [due_clocked] using h

/-- Settles O1. -/
theorem stepRunsFrontCommand : Obligations.StepRunsFrontCommand :=
  ⟨fun s c rest h => by unfold step; rw [h], fun s h => by unfold step; rw [h]⟩

/-! ### Pin reset (R173 to R175) -/

/-- Settles O3: each value is written out in `State.afterPinReset`; tables hold like entries. -/
theorem pinResetReleaseValues : Obligations.PinResetReleaseValues := by
  intro s t straps
  have hlane : ∀ i : LaneId, laneOf (State.afterPinReset (max s.now t) straps s.pending) i =
      if i = 1 ∧ straps.singleLane = true then Lane.held else Lane.enabled (max s.now t) := by
    intro i
    fin_cases i
    · rfl
    · cases h : straps.singleLane <;> simp [laneOf, State.afterPinReset, h]
  refine ⟨_, rfl, rfl, rfl, rfl, fun i => ?_, rfl, rfl, rfl, rfl, rfl, rfl, rfl, rfl, rfl, rfl, rfl, rfl, rfl, rfl, rfl, rfl,
    rfl, rfl, rfl, fun n => ?_, rfl, rfl, rfl, rfl, fun e => ?_, fun x => ?_, rfl, ?_, rfl, rfl, rfl, rfl, rfl, rfl, rfl, rfl,
    rfl, rfl, rfl, rfl, fun p => ?_, rfl, rfl, rfl, rfl, rfl, rfl⟩
  · rw [hlane i]
    split <;> simp [Lane.held, Lane.enabled]
  · simp [State.afterPinReset, Ilm.reset, Slot.empty]
  · simp [State.afterPinReset, Scheduler.reset, Engine.reset, engineOf]
  · simp [State.afterPinReset, Scheduler.reset, Context.reset, contextOf]
  · simp only [State.afterPinReset, Store.reset]
  · simp [State.afterPinReset, Subs.reset, Peer.absent]

/-- Settles O4. -/
theorem pinResetAssertHolds : Obligations.PinResetAssertHolds := by
  refine ⟨fun s t => ⟨_, rfl, rfl, fun i => ?_, rfl, rfl, rfl, rfl, rfl, rfl, fun e => ?_, rfl, rfl, rfl, rfl, rfl, rfl, rfl,
    rfl, rfl⟩, fun s c hs hc => exec_held hs hc⟩
  · fin_cases i <;> rfl
  · rw [show (engineOf (heldState s (max s.now t)) e) = Engine.reset by
      simp [heldState, State.afterPinReset, Scheduler.reset, engineOf]]
    rfl

/-! ### Lanes (R1 to R6) -/

/-- Settles O5. -/
theorem laneAcquires : Obligations.LaneAcquires := by
  intro s t i hs
  refine ⟨fun pol ha hz hd => ?_, fun ha hf => ?_, fun ha hd => ?_, fun ht => ?_⟩
  · exact exec_eq hs rfl (if_pos ⟨ha, hz, hd⟩) (settled_setLane hs t i _)
  · exact exec_eq hs rfl (if_pos ⟨ha, hf⟩) (settled_setLane hs t i _)
  · exact exec_eq hs rfl (if_pos ⟨ha, hd⟩) (settled_setLane hs t i _)
  · exact exec_eq hs rfl (if_pos ht) (settled_setLane hs t i _)

theorem corruptWord_unaligned {s : State} {i : LaneId} (h : (laneOf s i).state ≠ .aligned) : corruptWord s i = s := if_pos h

theorem corruptWord_below {s : State} {i : LaneId} (h : (laneOf s i).state = .aligned) (hr : (laneOf s i).corruptRun < 3) :
    corruptWord s i = setLane s i { countWord (laneOf s i) with corruptRun := (laneOf s i).corruptRun + 1 } := by
  unfold corruptWord
  dsimp only
  rw [if_neg (not_not.2 h), if_neg (by omega)]

theorem corruptWord_fourth {s : State} {i : LaneId} (h : (laneOf s i).state = .aligned) (hr : 3 ≤ (laneOf s i).corruptRun) :
    corruptWord s i = laneGone (setLane s i (enterTrack (laneOf s i))) i := by
  unfold corruptWord
  dsimp only
  rw [if_neg (not_not.2 h), if_pos (by omega)]

/-- Settles O6. -/
theorem laneWordsKeepLaneRecord : Obligations.LaneWordsKeepLaneRecord := by
  refine ⟨fun s t i hs ha => ⟨?_, fun present q hn => ?_, fun hr => ?_, fun ho hw => ?_⟩, fun s t i hs ha => ?_⟩
  · exact exec_eq hs rfl (if_neg (not_not.2 ha)) (settled_setLane hs t i _)
  · refine exec_eq hs rfl ((if_neg (not_not.2 ha)).trans (if_neg ?_)) (settled_setLane hs t i _)
    simpa using hn
  · exact exec_eq hs rfl (corruptWord_below (s := s.clocked t) ha hr) (settled_setLane hs t i _)
  · exact exec_eq hs rfl (if_pos ⟨ha, ho, hw⟩) (settled_setLane hs t i _)
  · have hu := settled_clocked hs t
    exact ⟨exec_eq hs rfl (if_pos ha) hu, exec_eq hs rfl (if_pos ha) hu,
      exec_eq hs rfl (corruptWord_unaligned (s := s.clocked t) ha) hu,
      exec_eq hs rfl (corruptWord_unaligned (s := s.clocked t) ha) hu,
      fun _ _ => exec_eq hs rfl (if_pos ha) hu, fun _ _ _ => exec_eq hs rfl (if_pos ha) hu⟩

/-! ### Payload cell words (R8, R46) -/

theorem takePayloadWord_received {s : State} {f : Frame} (hf : s.ftr.frame = some f) (hr : isReceived f = true)
    (he : f.payloadEnded = false) (w : CellWord) :
    takePayloadWord s w = if f.payloadWords + 1 < 7200 then gather (setFrame s { f with payloadWords := f.payloadWords + 1 }) w
      else endPayload (measureOffset (gather (setFrame s { f with payloadWords := f.payloadWords + 1 }) w) f) := by
  unfold takePayloadWord
  rw [hf]
  exact if_neg (by simp [hr, he])

theorem gather_open {s : State} {ws : List CellWord} (h : s.ilm.fill = some ws) (w : CellWord) :
    gather s w = setIlm s { s.ilm with fill := some (w :: ws) } := by
  rw [gather, h]
  rfl

/-- A cell word on an ALIGNED lane that carries its area, as its command meets it. -/
theorem exec_payloadWord {s u : State} {t : Instant} {i : LaneId} {w : CellWord} {b : ControlBlock} (hs : Awake s)
    (ha : (laneOf s i).state = .aligned) (hi : s.mod.straps.singleLane = true ∨ i = 0)
    (hu : takePayloadWord (setLane (s.clocked t) i (countWord (laneOf s i))) w = u) (hset : Settled u) :
    exec (.cellWord t i .payload w b) s = .next u := by
  refine exec_eq hs rfl (((if_neg (not_not.2 ha)).trans (if_neg ?_)).trans hu) hset
  rcases hi with hi | hi <;> simp [areaAgrees, hi]

/-- Settles O8. -/
theorem payloadWordGathered : Obligations.PayloadWordGathered := by
  intro s t i w b f ws hs ha hi hf hr he hn hw
  refine exec_payloadWord hs ha hi ((takePayloadWord_received (f := f) (s := setLane (s.clocked t) i _) hf hr he w).trans ?_)
    (hs.2.congr rfl rfl rfl rfl rfl rfl)
  rw [if_pos (by omega)]
  exact gather_open (s := setFrame (setLane (s.clocked t) i (countWord (laneOf s i))) _) hw w

/-! ### Timers -/

theorem releaseEvent_eq (s : State) (f : FrameCount) (r : Instant) :
    releaseEvent s f r = { s with dlv := {
      releaseList := (s.dlv.releaseList ++ [(f, r)]).drop (s.dlv.releaseList.length + 1 - 16),
      cursors := s.dlv.cursors.map (fun c =>
        if c.cursor = some f ∧ c.deadline = .armed then { c with deadline := .running (r + 60000000) } else c) } } := by
  simp [releaseEvent, pushLast]

/-- Settles O18. -/
theorem releaseInstantIssued : Obligations.ReleaseInstantIssued := by
  intro s t f r rest hs hr hd
  refine exec_eq hs rfl ?_ (hs.2.congr rfl rfl rfl rfl rfl rfl)
  have hfind : (s.clocked t).ftr.releases.find? (fun p => p.1 == f && decide (p.2 ≤ (s.clocked t).now)) = some (f, r) := by
    rw [State.clocked_ftr, hr, List.find?_cons_of_pos (by simpa using hd)]
  simp only [hfind, releaseEvent_eq]
  simp [setTracker, hr]

/-- Settles O35. -/
theorem damagedMessageRejected : Obligations.DamagedMessageRejected := by
  intro s t start bits hs
  have hrec : isReceiver (s.clocked t) start = isReceiver s start := rfl
  refine ⟨fun h hj => exec_eq hs rfl ?_ (settled_setEndSlot hs t _), fun r h hj => exec_eq hs rfl ?_ (settled_setEndSlot hs t _),
    fun h => exec_eq hs rfl ?_ (settled_clocked hs t)⟩
  · simp [hrec, h, hj, setEndSlot, setLink]
  · simp [hrec, h, hj, setEndSlot, setLink]
  · simp [hrec, h]

/-- A change of the link that leaves the queue alone. -/
theorem within_line (s : State) {l : Link} (hq : l.queue = s.lnk.queue) (hn : l.nextUid = s.lnk.nextUid) :
    Within [.line] s (setLink s l) := by
  intro p hp
  cases p <;> first | exact absurd (by decide) hp | simp [sameIn, hq, hn]

/-- Settles O39: a part that was not JOINED held no claims, so that JOINED finds them settled. -/
theorem joinTimerJoins : Obligations.JoinTimerJoins := by
  intro s t d hs hl hj hd
  have hdue : due (s.clocked t) (s.clocked t).lnk.joinTimer = true := by
    rw [show (s.clocked t).lnk.joinTimer = some d from hj]
    exact due_of_le hd
  refine ⟨_, exec_eq hs rfl (if_pos ⟨hl, hdue⟩) ?_, rfl, rfl, rfl, rfl, ?_⟩
  · rcases hs.2 with h | ⟨hc, hload, ho⟩
    · simp [claimsAllowed, hl] at h
    · exact .inr ⟨hc, hload, ho⟩
  · have hw := within_line (s.clocked t) (l := { s.lnk with state := .joined, joinTimer := none }) rfl rfl
    exact ((within_clocked s t).mono.trans hw.mono).trans ((within_spendMark _).mono.trans (within_endRestarting _).mono)

/-- Settles O44. -/
theorem peerAgesOut : Obligations.PeerAgesOut := by
  intro s t d p hs hp ha hd
  refine exec_eq hs rfl (if_pos ⟨hp, ?_⟩) (hs.2.congr rfl rfl rfl rfl rfl rfl)
  rw [show ((s.clocked t).sub.peers.get p).aging = some d from ha]
  exact due_of_le hd

end Sys2Proof.Machine

/-! PROOFS. O29, O30, O36 to O38: reports, the receive filter, and the faults of the link. -/

namespace Sys2Proof.Machine

-- one theorem at a time: elaborated side by side, they would hold more threads than the check allows
set_option Elab.async false

/-! ### Entries queued -/

/-- The entry that the queue holds once `e` is inserted. -/
def numbered (s : State) (e : Entry) : Entry := { e with uid := s.lnk.nextUid }

theorem queue_insertNew (s : State) (e : Entry) : (insertNew s e).lnk.queue = placeEntry (numbered s e) s.lnk.queue := rfl

theorem numbered_mem (s : State) (e : Entry) : numbered s e ∈ (insertNew s e).lnk.queue := mem_placeEntry.2 (.inl rfl)

theorem length_insertNew (s : State) (e : Entry) : (insertNew s e).lnk.queue.length = s.lnk.queue.length + 1 :=
  length_placeEntry _ _

theorem RoomFor.congr {a b : State} {k : MsgKind} {x : Option StreamId} {f : Option FrameCount} (h : RoomFor a k x f)
    (hl : b.lnk = a.lnk) : RoomFor b k x f := by
  unfold RoomFor queued at *
  rwa [hl]

/-- An entry that is no TRACE is inserted where there is room. -/
theorem offerAnyway_of_room {s : State} {e : Entry} (h : RoomFor s e.kind e.stream e.frame) (hk : e.kind ≠ .trace) :
    offerAnyway s e = insertNew s e := by
  unfold offerAnyway
  rw [offer_of_room h fun k => hk k.1]

/-! ### The status timer (R167) -/

theorem cadencePoint_running {s : State} (h : s.mod.mode = .running) : cadencePoint s = offerNotice s .status := by
  have hm : (offerNotice s .status).mod.mode = .running := (within_offerNotice s _).mode.trans h
  simp [cadencePoint, h, hm]

theorem cadencePoint_silent {s : State} (h : s.mod.mode = .restarting ∨ s.mod.mode = .quiesced) : cadencePoint s = s := by
  rcases h with h | h <;> simp [cadencePoint, h]

/-- Settles O29. -/
theorem statusTimerOffersStatus : Obligations.StatusTimerOffersStatus := by
  intro s t d hs ht hd
  have hdue : due (s.clocked t) (s.clocked t).mod.statusTimer = true := by
    rw [show (s.clocked t).mod.statusTimer = some d from ht]
    exact due_of_le hd
  refine ⟨fun hm hr => ?_, fun hm => ?_⟩
  · let s1 := setStatusTimer (s.clocked t) (some (max s.now t + 72000000))
    have hc : cadencePoint s1 = insertNew s1 (newEntry s .status none none 0 .status) :=
      (cadencePoint_running (s := s1) hm).trans (offerAnyway_of_room (hr.congr rfl) (by simp [newEntry]))
    have hw : Within [.time, .queue, .statusTimer] s (insertNew s1 (newEntry s .status none none 0 .status)) :=
      ((within_clocked s t).mono.trans (within_setStatusTimer _ _).mono).trans (within_insertNew _ _).mono
    exact ⟨_, exec_eq hs rfl ((if_pos hdue).trans hc) (hs.2.within hw), rfl, ⟨_, numbered_mem _ _, rfl, rfl, rfl, rfl, rfl⟩,
      length_insertNew _ _, hw⟩
  · exact exec_eq hs rfl ((if_pos hdue).trans (cadencePoint_silent hm)) (hs.2.congr rfl rfl rfl rfl rfl rfl)

/-! ### The notice hold-off (R41) -/

theorem testNotice_unwanted {s : State} (hc : s.maps.wantCurrent = false) (hn : s.maps.wantNext = false) : testNotice s = s :=
  if_neg (by simp [hc, hn])

/-- The wanted notice of the current map is queued where the conditions of R41 hold and there is room. -/
theorem testNotice_current {s : State} (ha : noticeAllowed s = true) (hw : s.maps.wantCurrent = true)
    (hr : RoomFor s .map none none) : testNotice s = noticeSent (insertNew s (noticeEntry s false)) false := by
  have he : offerEntry s (noticeEntry s false) = (insertNew s (noticeEntry s false), true) := by
    unfold offerEntry
    rw [if_neg hr.1, if_neg (by simpa [noticeEntry, newEntry] using hr.2.1), if_neg (by simp [noticeEntry, newEntry]),
      if_pos (show s.lnk.queue.length < queueLimit from hr.2.2)]
  simp [testNotice, ha, hw, he]

/-- Settles O30. -/
theorem noticeHoldOffQueuesMap : Obligations.NoticeHoldOffQueuesMap := by
  intro s t d hs hh hd
  have hdue : due (s.clocked t) (s.clocked t).maps.holdOff = true := by
    rw [show (s.clocked t).maps.holdOff = some d from hh]
    exact due_of_le hd
  refine ⟨fun hc hn => ?_, fun hc hm hl hr => ?_⟩
  · exact exec_eq hs rfl ((if_pos hdue).trans (testNotice_unwanted hc hn)) (hs.2.congr rfl rfl rfl rfl rfl rfl)
  · let s1 := setMaps (s.clocked t) { s.maps with holdOff := none }
    have ha : noticeAllowed s1 = true := by
      have hq : queued s1 .map none none = false := hr.2.1
      rcases hm with hm | hm <;> simp [noticeAllowed, hq, s1, hm, hl]
    have hw := ((within_clocked s t).mono.trans (within_setMaps _ { s.maps with holdOff := none }).mono).trans
      ((within_insertNew s1 (noticeEntry s1 false)).mono.trans (within_noticeSent _ false).mono) (ps := [.time, .queue, .mapUnit])
    refine ⟨_, exec_eq hs rfl ((if_pos hdue).trans (testNotice_current ha hc hr)) (hs.2.within hw), ?_,
      ⟨_, numbered_mem s1 (noticeEntry s1 false), rfl, rfl, rfl⟩, length_insertNew s1 _, hw⟩
    simp [noticeSent, insertNew]

/-! ### Messages heard (R118, R132) -/

/-- The state in which a message's owner takes it: the end slot was left recessive. -/
def heardState (s : State) (t : Instant) : State := setEndSlot (s.clocked t) .recessive

section

variable {s : State} {k : MsgKind} {m : LinkMessage} (owner : State → State)

theorem hear_deaf (h : isReceiver s m.start = false) : hear s k m owner = s := by simp [hear, h]

theorem hear_partial (h : isReceiver s m.start = true) (hb : bodyWhole m = false) : hear s k m owner = setEndSlot s .reject := by
  simp [hear, h, hb]

theorem hear_discarded (h : isReceiver s m.start = true) (hb : bodyWhole m = true) (hf : filterPasses k m = false) :
    hear s k m owner = countControlError (setEndSlot s .recessive) := by simp [hear, h, hb, hf]

theorem hear_own (h : isReceiver s m.start = true) (hb : bodyWhole m = true) (hf : filterPasses k m = true)
    (ho : m.header.source.toNat = s.mod.straps.station.val) : hear s k m owner = duplicateFault (setEndSlot s .recessive) := by
  simp [hear, h, hb, hf, ho]

theorem hear_heard (h : Heard s k m) : hear s k m owner = owner (setEndSlot s .recessive) := by
  obtain ⟨hr, hb, hf, ho⟩ := h
  simp [hear, hr, hb, hf, ho]

end

/-- What a command answers whose message is heard by its owner. -/
theorem exec_heard {c : Instr} {s u : State} {t : Instant} {k : MsgKind} {m : LinkMessage} {owner : State → State} (hs : Awake s)
    (h : Heard s k m) (he : exec c s = .next (live t s fun s => hear s k m owner)) (hu : owner (heardState s t) = u)
    (hset : Settled u) : exec c s = .next u :=
  exec_eq hs he ((hear_heard (s := s.clocked t) owner h).trans hu) hset

/-- A message of a kind is heard for its owner, which its command fixes. -/
theorem exec_commandOfMessage {code : Byte} {k : MsgKind} (hk : kindOfCode code = some k) (t : Instant) (m : LinkMessage)
    (s : State) : ∃ owner, exec (commandOfMessage t code m) s = .next (live t s fun s => hear s k m owner) := by
  unfold commandOfMessage
  rw [hk]
  cases k <;> exact ⟨_, rfl⟩

theorem exec_unknownKind {code : Byte} (hk : kindOfCode code = none) (t : Instant) (m : LinkMessage) (s : State) :
    exec (commandOfMessage t code m) s = .next (live t s fun s =>
      if isReceiver s m.start = false then s else if bodyWhole m = false then setEndSlot s .reject
      else countControlError (setEndSlot s .recessive)) := by
  unfold commandOfMessage
  rw [hk]
  simp [exec, execUnknownKindMessage, hk]

theorem bump_eq (c : BitVec 16) : bump c = if c = 65535 then 65535 else c + 1 := by
  unfold bump
  split
  · assumption
  · rfl

theorem countControlError_eq (s : State) : countControlError s =
    { s with mod := { s.mod with counters := { s.mod.counters with
      controlErrors := if s.mod.counters.controlErrors = 65535 then 65535 else s.mod.counters.controlErrors + 1 } } } := by
  unfold countControlError
  rw [bump_eq]

/-- Settles O36. -/
theorem filterDiscardsAndCounts : Obligations.FilterDiscardsAndCounts := by
  intro s t code m hs
  have hrec : isReceiver (s.clocked t) m.start = isReceiver s m.start := rfl
  have hcount : Settled (countControlError (setEndSlot (s.clocked t) .recessive)) := hs.2.congr rfl rfl rfl rfl rfl rfl
  cases hk : kindOfCode code with
  | none =>
    have he := exec_unknownKind hk t m s
    refine ⟨fun h => exec_eq hs he ?_ (settled_clocked hs t), fun h hb => exec_eq hs he ?_ (settled_setEndSlot hs t .reject),
      fun h hb _ => exec_eq hs he ?_ hcount⟩
    · exact if_pos (hrec.trans h)
    · exact (if_neg (by simp [hrec, h])).trans (if_pos hb)
    · exact ((if_neg (by simp [hrec, h])).trans (if_neg (by simp [hb]))).trans (countControlError_eq _)
  | some k =>
    obtain ⟨owner, he⟩ := exec_commandOfMessage hk t m s
    exact ⟨fun h => exec_eq hs he (hear_deaf (s := s.clocked t) owner h) (settled_clocked hs t),
      fun h hb => exec_eq hs he (hear_partial (s := s.clocked t) owner h hb) (settled_setEndSlot hs t _),
      fun h hb hf => exec_eq hs he
        ((hear_discarded (s := s.clocked t) owner h hb (hf k rfl)).trans (countControlError_eq _)) hcount⟩

/-! ### Faults of the link (R120, R122, R123) -/

/-- A part that may hold no claims holds none, once they are settled. -/
theorem Settled.claimless {s : State} (h : Settled s) (hn : claimsAllowed s = false) :
    s.sub.claims = [] ∧ s.sub.claimLoad = 0 ∧ s.sub.claimsOpen = false := by
  rcases h with h | h
  · rw [hn] at h
    cases h
  · exact h

theorem enterFault_eq (s : State) (r : FaultRecord) (x : Option Instant) : enterFault s r x =
    { s with lnk := { s.lnk with state := .fault, faultRecord := r, joinTimer := none, recoveryTimer := x },
             sub := { s.sub with claims := [], claimLoad := 0, claimsOpen := false } } := by
  simp [enterFault, settleClaims, claimsAllowed, setLink]

theorem enterListening_eq {s : State} (hc : s.sub.claims = [] ∧ s.sub.claimLoad = 0 ∧ s.sub.claimsOpen = false) :
    enterListening s = { s with
      lnk := { s.lnk with state := .listening, joinTimer := some (s.now + 216000000), recoveryTimer := none,
                          receivingFrom := s.now },
      sub := { s.sub with armed := true } } := by
  obtain ⟨h1, h2, h3⟩ := hc
  unfold enterListening
  exact settleClaims_of_settled (.inr ⟨h1, h2, h3⟩)

theorem duplicateFault_first {s : State} (hl : s.lnk.state ≠ .offline) (hp : s.lnk.permanent = false)
    (hd : secondDuplicate s = false) : duplicateFault s = firstDuplicate s := by simp [duplicateFault, hl, hp, hd]

theorem duplicateFault_second {s : State} (hl : s.lnk.state ≠ .offline) (hp : s.lnk.permanent = false)
    (hd : secondDuplicate s = true) : duplicateFault s = permanentFault s := by simp [duplicateFault, hl, hp, hd]

/-- What either DUPLICATE event brings. -/
theorem duplicateFault_brings {s : State} (hl : s.lnk.state ≠ .offline) (hp : s.lnk.permanent = false) :
    (duplicateFault s).lnk.state = .fault ∧ (duplicateFault s).lnk.faultRecord = .duplicate ∧
      (duplicateFault s).lnk.attempt = s.lnk.attempt ∧ (duplicateFault s).sub.claims = [] ∧ Settled (duplicateFault s) := by
  cases hd : secondDuplicate s with
  | true =>
    rw [duplicateFault_second hl hp hd, permanentFault, enterFault_eq]
    exact ⟨rfl, rfl, rfl, rfl, .inr ⟨rfl, rfl, rfl⟩⟩
  | false =>
    rw [duplicateFault_first hl hp hd, firstDuplicate, enterFault_eq]
    exact ⟨rfl, rfl, rfl, rfl, .inr ⟨rfl, rfl, rfl⟩⟩

/-- Within a failed attempt nothing of the line but the attempt changes. -/
theorem within_offLine_failAttempt (s : State) (a : Attempt) :
    Within [.store, .queue, .counters, .mapUnit] (offLine s) (failAttempt s a) := by
  unfold failAttempt
  dsimp only
  split
  · exact .refl _ _
  · refine .ite (fun _ => (within_updateEntry _ _ _).mono) fun _ => .ite (fun _ => ?_) fun _ => (within_updateEntry _ _ _).mono
    exact ((within_removeEntry _ _).mono.trans (within_countLinkDrop _).mono).trans (within_tellOwner _ _).mono

/-- An abort takes the attempt off the line; of the link's own state nothing else changes. -/
theorem within_offLine_abortAttempt (s : State) :
    Within [.store, .queue, .counters, .mapUnit] (offLine s) (abortAttempt s) := by
  unfold abortAttempt
  split
  · rename_i h
    have e : offLine s = s := by
      obtain ⟨_, _, _, _, _, _, _, _, lnk, _, _, _, _⟩ := s
      obtain ⟨_, _, _, _, _, _, _, _, _, _, _, _⟩ := lnk
      cases h
      rfl
    rw [e]
    exact .refl _ _
  · exact within_offLine_failAttempt _ _

/-- Settles O37. -/
theorem duplicateEventFaults : Obligations.DuplicateEventFaults := by
  intro s t hs hl hp
  have hbrings := duplicateFault_brings (s := s.clocked t) hl hp
  have hw : Within [.time, .line, .claims] s (duplicateFault (s.clocked t)) :=
    (within_clocked s t).mono.trans (within_duplicateFault _).mono
  have hearing : exec (.duplicateEvent t .hearing) s = .next (duplicateFault (s.clocked t)) :=
    exec_eq hs rfl rfl hbrings.2.2.2.2
  refine ⟨fun hd => ?_, fun d hd hle => ?_, fun ha => ?_, fun code k m hk hr hb hf ho => ?_⟩
  · have h2 : secondDuplicate (s.clocked t) = false := by
      rcases hd with hd | ⟨d, hd, hlt⟩
      · simp [secondDuplicate, hd]
      · unfold secondDuplicate
        rw [show (s.clocked t).lnk.duplicateAt = some d from hd]
        exact decide_eq_false (Nat.not_le.2 hlt)
    refine ⟨_, hearing, ?_, hbrings.2.2.2.1, hw⟩
    rw [duplicateFault_first (s := s.clocked t) hl hp h2, firstDuplicate, enterFault_eq]
    rfl
  · have h2 : secondDuplicate (s.clocked t) = true := by simpa [secondDuplicate, hd] using hle
    refine ⟨_, hearing, ?_, hbrings.2.2.2.1, hw⟩
    rw [duplicateFault_second (s := s.clocked t) hl hp h2, permanentFault, enterFault_eq]
    rfl
  · have hab := within_offLine_abortAttempt (s.clocked t)
    obtain ⟨hstate, hrec, hatt, -, hset⟩ := duplicateFault_brings (s := abortAttempt (s.clocked t))
      (by rw [hab.linkState]; exact hl) (by rw [hab.permanent]; exact hp)
    refine ⟨_, exec_eq hs rfl (if_pos ha) hset, hstate, hrec, hatt.trans hab.attempt, ?_⟩
    exact (within_clocked s t).mono.trans ((within_abortAttempt _).mono.trans (within_duplicateFault _).mono)
  · obtain ⟨owner, he⟩ := exec_commandOfMessage hk t m s
    obtain ⟨hstate, hrec, -, hclaims, hset⟩ := duplicateFault_brings (s := heardState s t) hl hp
    refine ⟨_, exec_eq hs he (hear_own (s := s.clocked t) owner hr hb hf ho) hset, hstate, hrec, hclaims, ?_⟩
    exact (within_clocked s t).mono.trans ((within_setEndSlot _ _).mono.trans (within_duplicateFault _).mono)

/-- Settles O38. -/
theorem stuckLineRecovers : Obligations.StuckLineRecovers := by
  intro s t hs hp
  refine ⟨fun hl => ?_, fun hk hl => ?_, fun d hl hr hd => ?_⟩
  · have hab := within_offLine_abortAttempt (s.clocked t)
    have hw : Within [.time, .line, .claims, .store, .queue, .counters, .mapUnit] s _ :=
      (within_clocked s t).mono.trans (within_stuck _).mono
    have hn : ¬(s.lnk.state = .offline ∨ s.lnk.permanent = true) := by simp [hl, hp]
    refine ⟨_, exec_eq hs rfl (if_neg hn) ?_, ?_⟩
    · rw [enterFault_eq]
      exact .inr ⟨rfl, rfl, rfl⟩
    · have hdup : (abortAttempt (s.clocked t)).lnk.duplicateAt = s.lnk.duplicateAt := by
        have e := congrArg Link.duplicateAt hab.line
        exact e
      rw [enterFault_eq] at hw ⊢
      exact ⟨rfl, rfl, rfl, rfl, hab.attempt, rfl, hdup, rfl, hw⟩
  · exact exec_eq hs rfl (if_pos ⟨hk, hl, by simp [hp]⟩) (hs.2.congr rfl rfl rfl rfl rfl rfl)
  · have hdue : due (s.clocked t) (s.clocked t).lnk.recoveryTimer = true := by
      rw [show (s.clocked t).lnk.recoveryTimer = some d from hr]
      exact due_of_le hd
    have hc := (settled_clocked hs t).claimless (by simp [claimsAllowed, hl])
    exact exec_eq hs rfl ((if_pos ⟨hl, by simp [hp], hdue⟩).trans (enterListening_eq hc)) (.inr hc)

end Sys2Proof.Machine

/-! PROOFS. O19, O22 to O24, O32: span reads, scores, unit walks, pages and arbitration. -/

namespace Sys2Proof.Machine

-- one theorem at a time: elaborated side by side, they would hold more threads than the check allows
set_option Elab.async false

/-! ### Pages (R99) -/

/-- Filling pages changes no byte of another page. -/
theorem readByte_writePages {pages : List (Fin 256)} {p : Fin 256} (hp : p ∉ pages) {i : Nat} (hi : i < 256) (m : Memory)
    (bytes : List Byte) : readByte (writePages m pages bytes) (p.val * 256 + i) = readByte m (p.val * 256 + i) := by
  induction pages generalizing m bytes with
  | nil => rfl
  | cons q qs ih =>
    rw [List.mem_cons, not_or] at hp
    have hne : p.val ≠ q.val := fun h => hp.1 (Fin.ext h)
    have hlen : (bytes.take 256).length ≤ 256 := by simp
    rw [writePages, ih hp.2, readByte_writeBytes_other]
    omega

/-- A page reads as the bytes written to it, whatever is written to other pages after. -/
theorem readPage_writePages {pages : List (Fin 256)} {p : Fin 256} (hp : p ∉ pages) (m : Memory) (bytes rest : List Byte) :
    (List.range (min bytes.length 256)).map (fun i =>
      readByte (writePages (writeBytes m (p.val * 256) (bytes.take 256)) pages rest) (p.val * 256 + i)) = bytes.take 256 := by
  refine List.ext_getElem (by simp [Nat.min_comm]) fun i h1 h2 => ?_
  rw [List.getElem_map, List.getElem_range, readByte_writePages hp (by simp at h1; omega), readByte_writeBytes_same _ _ _ _ h2]

theorem readPages_writePages {pages : List (Fin 256)} (hn : pages.Nodup) (m : Memory) {bytes : List Byte}
    (hb : bytes.length ≤ 256 * pages.length) : readPages (writePages m pages bytes) pages bytes.length = bytes := by
  induction pages generalizing m bytes with
  | nil =>
    have hz : bytes = [] := by simpa using hb
    rw [hz]
    rfl
  | cons p ps ih =>
    rw [List.nodup_cons] at hn
    have hrest : (bytes.drop 256).length ≤ 256 * ps.length := by
      rw [List.length_drop]
      rw [List.length_cons] at hb
      omega
    rw [readPages, writePages, readPage_writePages hn.1, ← List.length_drop, ih hn.2 _ hrest, List.take_append_drop]

/-- Settles O24. -/
theorem pagesHoldTheParcel : Obligations.PagesHoldTheParcel := fun m _ bytes hn hb =>
  ⟨readPages_writePages hn m hb, fun _ _ hp hi => readByte_writePages hp hi m bytes⟩

/-! ### Arbitration (R116, R117) -/

theorem mod_two_pow_succ_le_iff (a b n : Nat) : a % 2 ^ (n + 1) ≤ b % 2 ^ (n + 1) ↔
    (a.testBit n = false ∧ b.testBit n = true) ∨ (a.testBit n = b.testBit n ∧ a % 2 ^ n ≤ b % 2 ^ n) := by
  have ha := Nat.mod_lt a (Nat.two_pow_pos n)
  have hb := Nat.mod_lt b (Nat.two_pow_pos n)
  have key (x : Nat) : x % 2 ^ (n + 1) = x % 2 ^ n + 2 ^ n * (x.testBit n).toNat := by
    rw [Nat.mod_pow_succ, Nat.testBit_eq_decide_div_mod_eq]
    rcases Nat.mod_two_eq_zero_or_one (x / 2 ^ n) with h | h <;> simp [h]
  rw [key, key]
  cases a.testBit n <;> cases b.testBit n <;> simp <;> omega

/-- Who is still sending after the last `n` bits has, among those who contended in them, the least value of them. -/
theorem survives_iff (own : ArbField) (n : Nat) (rivals : List ArbField) :
    survives own n rivals = true ↔ ∀ r ∈ rivals, own.toNat % 2 ^ n ≤ r.toNat % 2 ^ n := by
  induction n generalizing rivals with
  | zero => simp [survives, Nat.mod_one]
  | succ n ih =>
    simp only [survives, mod_two_pow_succ_le_iff, ← BitVec.testBit_toNat]
    cases own.toNat.testBit n with
    | true =>
      by_cases hd : rivals.any (fun r => !r.toNat.testBit n) = true
      · rw [if_pos rfl, if_pos hd]
        obtain ⟨r, hr, hb⟩ := List.any_eq_true.1 hd
        simp only [Bool.false_eq_true, false_iff, not_forall]
        exact ⟨r, hr, by simp_all⟩
      · rw [if_pos rfl, if_neg hd, ih]
        have hall : ∀ r ∈ rivals, r.toNat.testBit n = true := by simpa using hd
        exact forall₂_congr fun r hr => by simp [hall r hr]
    | false =>
      rw [if_neg (by simp), ih]
      simp only [List.mem_filter, Bool.not_eq_true', and_imp]
      refine forall₂_congr fun r _ => ?_
      cases r.toNat.testBit n <;> simp

theorem arbField_toNat {cls rank station : Nat} (hc : cls ≤ 6) (hr : rank ≤ 1023) (hs : station < 8) :
    (arbField cls rank station).toNat = cls * 8192 + rank * 8 + station := by
  rw [arbField, BitVec.toNat_ofNat, Nat.mod_eq_of_lt (by omega)]

theorem classOf_le (k : MsgKind) : classOf k ≤ 6 := by cases k <;> decide

/-- Settles O32. -/
theorem lowestFieldWinsArbitration : Obligations.LowestFieldWinsArbitration := by
  refine ⟨fun own rivals => ?_, fun s k x f rank b hr => ?_⟩
  · rw [winsArbitration, survives_iff]
    refine forall₂_congr fun r _ => ?_
    rw [Nat.mod_eq_of_lt own.isLt, Nat.mod_eq_of_lt r.isLt, BitVec.le_def]
  · refine (arbField_toNat (classOf_le k) hr (Nat.lt_of_lt_of_le s.mod.straps.station.isLt (by decide))).trans ?_
    cases k <;> rfl

/-! ### Span reads (R50 to R52) -/

theorem getElem?_spanRead (s : State) (f : FrameCount) (start grains : Nat) {i : Nat} (hi : i < grains * 96) :
    (spanRead s f start grains)[i]? = some (
      let g : FrameCount := f + BitVec.ofNat 12 (5 * (i % 8) % 8)
      if (slotOf s g).tag = some g ∧ (slotOf s g).received then
        cellOf ((slotOf s g).cells.getD ((start * 96 + i) / 8) erasedWord) ((start * 96 + i) % 8)
      else erasure) := by
  rw [spanRead, List.getElem?_map, List.getElem?_range hi, Option.map_some]

/-- Settles O19. -/
theorem spanReadServesDelays : Obligations.SpanReadServesDelays := by
  intro s f start grains
  refine ⟨by simp [spanRead], fun i hi => ?_⟩
  have hread := getElem?_spanRead s f start grains hi
  refine ⟨fun ht hr hl hs => ?_, fun hn => ?_⟩
  · have hp : (start * 96 + i) / 8 < 7200 := by omega
    refine ⟨_, List.getElem?_eq_getElem (by rw [hl]; exact hp), ?_⟩
    rw [hread]
    dsimp only
    rw [if_pos ⟨ht, hr⟩, List.getD_eq_getElem?_getD]
    unfold slotOf slotIndex
    rw [List.getElem?_eq_getElem (by rw [hl]; exact hp)]
    rfl
  · rw [hread]
    dsimp only
    rw [if_neg]
    rintro ⟨ht, hr⟩
    rcases hn with hn | hn
    · exact hn ht
    · have : (true : Bool) = false := hr.symm.trans hn
      cases this

/-! ### Scores (R88 to R90) -/

/-- A cell disagrees only where it is not erased. -/
theorem disagreements_add_erasures_le (span : List Cell) (code : List Bool) :
    disagreements span code + erasures span ≤ span.length := by
  induction span generalizing code with
  | nil => simp [disagreements, erasures]
  | cons c cs ih =>
    cases code with
    | nil =>
      rw [disagreements, List.zip_nil_right, List.countP_nil, Nat.zero_add]
      exact List.countP_le_length
    | cons b bs =>
      have h := ih bs
      simp only [disagreements, erasures, List.zip_cons_cons, List.countP_cons, List.length_cons] at h ⊢
      have hc : contradicts c b = true → (c == erasure) = false := by
        intro k
        simp only [contradicts, Bool.and_eq_true, bne_iff_ne] at k
        simpa using k.1.1
      cases h1 : contradicts c b with
      | true =>
        rw [hc h1, if_pos rfl, if_neg (by simp)]
        omega
      | false =>
        rw [if_neg (by simp)]
        split <;> omega

theorem disagreementRatio_le {d u : Nat} (h : d ≤ u) : disagreementRatio d u ≤ 4096 :=
  Nat.div_le_of_le_mul (by rw [Nat.mul_comm u]; exact Nat.mul_comm d 4096 ▸ Nat.mul_le_mul_left 4096 h)

theorem disagreementRatio_lt {d u : Nat} (h : 4 * d < u) : disagreementRatio d u < 1024 :=
  (Nat.div_lt_iff_lt_mul (by omega)).2 (by omega)

theorem erasureRatio_lt {e n : Nat} (h : e < n) : erasureRatio e n < 4096 :=
  (Nat.div_lt_iff_lt_mul (by omega)).2 (by omega)

theorem outerCheck_zero (p : Nat) (parcel : List Byte) : outerCheck p parcel 0 = false := rfl

/-- Settles O22. -/
theorem scoreFollowsCounts : Obligations.ScoreFollowsCounts := by
  intro j span found now hn
  have hd := disagreements_add_erasures_le span found.code
  generalize hn' : span.length = n at hn hd
  generalize he' : erasures span = e at hd
  generalize hd' : disagreements span found.code = d at hd
  generalize hp' : outerCheck (payloadLength j.grains j.profile)
    (fitBytes (parcelLength j.grains j.profile) found.bytes) (n - e) = pass
  have hpass : n - e = 0 → pass = false := fun h => by rw [← hp', h, outerCheck_zero]
  have hr := disagreementRatio_le (d := d) (u := n - e) (by omega)
  have hr4 : 4 * d < n - e → disagreementRatio d (n - e) < 1024 := disagreementRatio_lt
  have hf : 0 < n - e → erasureRatio e n < 4096 := fun h => erasureRatio_lt (by omega)
  have hcount : span.countP (fun c => c == (8 : Cell)) = e := he'
  simp only [outcomeOf, hn', he', hd', hp', hcount]
  have hraw : rawScore n e d = 1023 - ((d * 4096 / (n - e) / 4 : Nat) : Int) - ((e * 4096 / n / 8 : Nat) : Int) := rfl
  rw [← hraw]
  replace hraw : rawScore n e d = 1023 - ((disagreementRatio d (n - e) / 4 : Nat) : Int) - ((erasureRatio e n / 8 : Nat) : Int) :=
    rfl
  have hlow : 0 < n - e → -512 ≤ rawScore n e d := fun h => by have := hf h; omega
  have hhigh : rawScore n e d ≤ 1023 := by omega
  have hclear : 4 * d < n - e → 257 ≤ rawScore n e d := fun h => by have := hr4 h; have := hf (by omega); omega
  have hzero : n - e = 0 → scoreOf n e d pass = 0 := fun h => if_pos h
  have hgood : 0 < n - e → pass = true → (scoreOf n e d pass : Int) = max (rawScore n e d) 256 := fun h k => by
    rw [scoreOf, if_neg (by omega), if_pos k]
    omega
  have hneg : 0 < n - e → pass = false → rawScore n e d < 0 → scoreOf n e d pass = 0 := fun h k l => by
    rw [scoreOf, if_neg (by omega), if_neg (by simp [k]), if_pos l]
  have hbad : 0 < n - e → pass = false → 0 ≤ rawScore n e d → (scoreOf n e d pass : Int) = rawScore n e d / 4 := fun h k l => by
    rw [scoreOf, if_neg (by omega), if_neg (by simp [k]), if_neg (by omega)]
    omega
  have hfail : pass = false → scoreOf n e d pass ≤ 255 := fun k => by
    rcases Nat.eq_zero_or_pos (n - e) with h | h
    · rw [hzero h]
      omega
    · rcases lt_or_ge (rawScore n e d) 0 with l | l
      · rw [hneg h k l]
        omega
      · have := hbad h k l
        omega
  have hsat : saturatedOf n e d = true ↔ n - e ≤ 4 * d := decide_eq_true_iff
  refine ⟨trivial, trivial, by omega, by omega, fun h => ⟨hr, Nat.le_of_lt_succ (hf h)⟩, decide_eq_true_iff, hsat,
    decide_eq_true_iff, fun h => ⟨hzero h, hpass h, decide_eq_true (by omega), hsat.2 (by omega)⟩,
    fun h => ⟨hlow h, hhigh, hgood h, fun k l => hbad h k l, fun k l => hneg h k l⟩, fun k => ?_, hfail, fun k l => ?_⟩
  · have h : 0 < n - e := Nat.pos_of_ne_zero fun h => by simp [hpass h] at k
    have := hgood h k
    omega
  · have h4 : 4 * d < n - e := Nat.not_le.1 fun h => by rw [hsat.2 h] at l; cases l
    have := hbad (by omega) k (by have := hclear h4; omega)
    have := hclear h4
    omega

end Sys2Proof.Machine

/-! PROOFS. O23: the unit walk. -/

namespace Sys2Proof.Machine

-- one theorem at a time: elaborated side by side, they would hold more threads than the check allows
set_option Elab.async false

/-- A header at `o` that a walk accepts: the marker byte, and a total length of at least 4 (R94). -/
def goodHeader (payload : List Byte) (o : Nat) : Prop := payloadByte payload o = 0x5C ∧ 4 ≤ headerLength payload o

theorem payloadByte_eq {payload : List Byte} {o : Nat} (h : o < payload.length) :
    payload[o]? = some (payloadByte payload o) := by
  rw [payloadByte, List.getD_eq_getElem?_getD, List.getElem?_eq_getElem h]
  rfl

theorem goodHeader_iff {payload : List Byte} {o : Nat} (h : o < payload.length) :
    goodHeader payload o ↔ payload[o]? = some 0x5C ∧ 4 ≤ headerLength payload o := by
  rw [payloadByte_eq h, Option.some_inj]
  rfl

/-! ### The steps of a walk -/

section

variable {payload : List Byte} {o fuel : Nat}

theorem walkChain_end (h : payload.length - o < 3) : walkChain payload (fuel + 1) o = ([], some 0) := if_pos h

theorem walkChain_broken (h : o + 3 ≤ payload.length) (hb : ¬goodHeader payload o) :
    walkChain payload (fuel + 1) o = ([], none) :=
  (if_neg (by omega)).trans (if_neg hb)

theorem walkChain_last (h : o + 3 ≤ payload.length) (hg : goodHeader payload o)
    (hl : payload.length ≤ o + headerLength payload o) :
    walkChain payload (fuel + 1) o = ([o], some (o + headerLength payload o - payload.length)) := by
  refine (if_neg (by omega)).trans ((if_pos hg).trans ?_)
  by_cases he : o + headerLength payload o = payload.length
  · rw [if_pos he, he, Nat.sub_self]
  · rw [if_neg he, if_pos (by omega)]

theorem walkChain_next (h : o + 3 ≤ payload.length) (hg : goodHeader payload o)
    (hl : o + headerLength payload o < payload.length) :
    walkChain payload (fuel + 1) o = (o :: (walkChain payload fuel (o + headerLength payload o)).1,
      (walkChain payload fuel (o + headerLength payload o)).2) :=
  (if_neg (by omega)).trans ((if_pos hg).trans ((if_neg (by omega)).trans (if_neg (by omega))))

end

/-- Where a walk from `o` stands: at the end, at a broken header, at the last unit, or at one with another behind it. -/
theorem walk_cases (payload : List Byte) (o : Nat) : payload.length - o < 3 ∨
    (o + 3 ≤ payload.length ∧ ¬goodHeader payload o) ∨
    (o + 3 ≤ payload.length ∧ goodHeader payload o ∧ payload.length ≤ o + headerLength payload o) ∨
    (o + 3 ≤ payload.length ∧ goodHeader payload o ∧ o + headerLength payload o < payload.length) := by
  rcases Nat.lt_or_ge (payload.length - o) 3 with h | h
  · exact .inl h
  · by_cases hg : goodHeader payload o
    · exact .inr (.inr ((Nat.lt_or_ge (o + headerLength payload o) payload.length).symm.imp
        (fun hl => ⟨by omega, hg, hl⟩) fun hl => ⟨by omega, hg, hl⟩))
    · exact .inr (.inl ⟨by omega, hg⟩)

/-- A chain is the same for every fuel that lasts to the end of the payload. -/
theorem walkChain_fuel {payload : List Byte} {f g o : Nat} (hf : payload.length < o + f) (hg : payload.length < o + g) (hn : o < payload.length) :
    walkChain payload f o = walkChain payload g o := by
  induction f generalizing g o with
  | zero => omega
  | succ f ih =>
    cases g with
    | zero => omega
    | succ g =>
      rcases walk_cases payload o with h | ⟨h, hb⟩ | ⟨h, hb, hl⟩ | ⟨h, hb, hl⟩
      · rw [walkChain_end h, walkChain_end h]
      · rw [walkChain_broken h hb, walkChain_broken h hb]
      · rw [walkChain_last h hb hl, walkChain_last h hb hl]
      · have := hb.2
        rw [walkChain_next h hb hl, walkChain_next h hb hl, ih (g := g) (by omega) (by omega) hl]

/-- The units of a chain lie within the payload under good headers, begin where the walk begins, and follow each other by
their total lengths. -/
def ChainSound (payload : List Byte) (o : Nat) (units : List Nat) : Prop :=
  (∀ x ∈ units, o ≤ x ∧ x + 3 ≤ payload.length ∧ goodHeader payload x) ∧ (∀ x, units.head? = some x → x = o) ∧
  ∀ i a b, units[i]? = some a → units[i + 1]? = some b → b = a + headerLength payload a

theorem chainSound_nil (payload : List Byte) (o : Nat) : ChainSound payload o [] := by simp [ChainSound]

theorem ChainSound.cons {payload : List Byte} {o : Nat} {units : List Nat} (h : o + 3 ≤ payload.length)
    (hg : goodHeader payload o) (hs : ChainSound payload (o + headerLength payload o) units) :
    ChainSound payload o (o :: units) := by
  obtain ⟨hmem, hhead, hnext⟩ := hs
  refine ⟨fun x hx => ?_, fun x hx => by simpa using hx.symm, fun i a b ha hb => ?_⟩
  · rcases List.mem_cons.1 hx with rfl | hx
    · exact ⟨Nat.le_refl _, h, hg⟩
    · obtain ⟨h1, h2, h3⟩ := hmem x hx
      exact ⟨by omega, h2, h3⟩
  · cases i with
    | zero =>
      have ha : o = a := by simpa using ha
      rw [← ha]
      exact hhead b (by rw [List.head?_eq_getElem?]; simpa using hb)
    | succ i => exact hnext i a b (by simpa using ha) (by simpa using hb)

theorem ChainSound.take {payload : List Byte} {o : Nat} {units : List Nat} (h : ChainSound payload o units) (n : Nat) :
    ChainSound payload o (units.take n) := by
  obtain ⟨hmem, hhead, hnext⟩ := h
  refine ⟨fun x hx => hmem x (List.mem_of_mem_take hx), fun x hx => ?_, fun i a b ha hb => ?_⟩
  · refine hhead x ?_
    cases n with
    | zero => cases hx
    | succ n => cases units with
      | nil => cases hx
      | cons => exact hx
  · rw [List.getElem?_take] at ha hb
    split at hb
    · rw [if_pos (by omega)] at ha
      exact hnext i a b ha hb
    · cases hb

theorem walkChain_sound (payload : List Byte) (fuel o : Nat) : ChainSound payload o (walkChain payload fuel o).1 := by
  induction fuel generalizing o with
  | zero => exact chainSound_nil payload o
  | succ fuel ih =>
    rcases walk_cases payload o with h | ⟨h, hb⟩ | ⟨h, hb, hl⟩ | ⟨h, hb, hl⟩
    · rw [walkChain_end h]
      exact chainSound_nil payload o
    · rw [walkChain_broken h hb]
      exact chainSound_nil payload o
    · rw [walkChain_last h hb hl]
      exact (chainSound_nil payload _).cons h hb
    · rw [walkChain_next h hb hl]
      exact (ih _).cons h hb

/-! ### A walk with a known carry-in -/

theorem walkKnown_inside {payload : List Byte} {k : Nat} (h : k < payload.length) :
    walkKnown payload k = walkResult (walkChain payload (payload.length + 1) k) := if_neg (by omega)

/-- What a walk lists and sets where a unit stands before the chain of another walk. -/
theorem walkResult_cons (k : Nat) (units : List Nat) (out : Option Nat) :
    let w := walkResult (k :: units, out)
    let v := walkResult (units, out)
    w.units = (k :: v.units).take 32 ∧ w.carryOut = v.carryOut ∧ w.resync = v.resync ∧
      (w.overflow = true ↔ v.units.length = 32 ∨ (v.resync = true ∧ v.units.length = 31)) := by
  refine ⟨by simp [walkResult, List.take_take], rfl, rfl, ?_⟩
  simp only [walkResult, List.length_cons, List.length_take, Bool.or_eq_true, Bool.and_eq_true, decide_eq_true_eq]
  constructor
  · rintro (h | ⟨hn, h⟩)
    · omega
    · rcases Nat.lt_or_ge units.length 32 with hl | hl
      · exact .inr ⟨hn, by omega⟩
      · omega
  · rintro (h | ⟨hn, h⟩)
    · omega
    · exact .inr ⟨hn, by omega⟩

/-- Settles O23. -/
theorem unitWalkFollowsHeaders : Obligations.UnitWalkFollowsHeaders := by
  intro payload k
  have hgood (h : k + 3 ≤ payload.length) : goodHeader payload k ↔ _ := goodHeader_iff (o := k) (by omega)
  refine ⟨fun h => if_pos h, fun h hs => ?_, fun h hb => ?_, fun h hg hl => ?_, fun h hg hl => ?_, fun h => ?_⟩
  · rw [walkKnown_inside h, walkChain_end hs]
    rfl
  · rw [walkKnown_inside (by omega), walkChain_broken h fun k => hb ((hgood h).1 k)]
    rfl
  · rw [walkKnown_inside (by omega), walkChain_last h ((hgood h).2 hg) hl]
    rfl
  · have h4 := hg.2
    have hfuel := walkChain_fuel (f := payload.length) (g := payload.length + 1) (by omega) (by omega) hl
    rw [walkKnown_inside (k := k) (by omega), walkKnown_inside hl, walkChain_next h ((hgood h).2 hg) hl, hfuel]
    exact walkResult_cons k _ _
  · rw [walkKnown_inside h]
    obtain ⟨hmem, hhead, hnext⟩ := (walkChain_sound payload (payload.length + 1) k).take 32
    refine ⟨?_, Option.isNone_iff_eq_none, fun ho => ?_, fun o ho => ?_, hhead, hnext⟩
    · simp [walkResult]
    · simp only [walkResult, Bool.or_eq_true, Bool.and_eq_true, decide_eq_true_eq] at ho
      simp only [walkResult, List.length_take]
      omega
    · obtain ⟨h1, h2, h3⟩ := hmem o ho
      exact ⟨h1, h2, (goodHeader_iff (by omega)).1 h3⟩

end Sys2Proof.Machine

/-! PROOFS. O31: message bits and lane words read back as they were sent. -/

namespace Sys2Proof.Machine

-- one theorem at a time: elaborated side by side, they would hold more threads than the check allows
set_option Elab.async false

/-! ### Bits and bytes -/

@[simp] theorem length_bitsOf {n : Nat} (v : BitVec n) : (bitsOf v).length = n := by simp [bitsOf]

@[simp] theorem length_bytesBits (bs : List Byte) : (bytesBits bs).length = 8 * bs.length := by
  induction bs with
  | nil => rfl
  | cons b bs ih =>
    rw [bytesBits, List.flatMap_cons, List.length_append, ← bytesBits, ih, length_bitsOf, List.length_cons]
    omega

theorem bytesBits_append (as bs : List Byte) : bytesBits (as ++ bs) = bytesBits as ++ bytesBits bs := List.flatMap_append

/-- The first `k` bits of a value are its quotient by the weight of the last of them. -/
theorem foldl_leadingBits {n : Nat} (v : BitVec n) {k : Nat} (hk : k ≤ n) :
    ((List.range k).map (fun i => v.getMsbD i)).foldl (fun v b => 2 * v + b.toNat) 0 = v.toNat / 2 ^ (n - k) := by
  induction k with
  | zero => rw [Nat.sub_zero, Nat.div_eq_of_lt v.isLt]; rfl
  | succ k ih =>
    have hbit : (v.getMsbD k).toNat = v.toNat / 2 ^ (n - (k + 1)) % 2 := by
      rw [BitVec.getMsbD, decide_eq_true (by omega : k < n), Bool.true_and, ← BitVec.testBit_toNat,
        Nat.testBit_eq_decide_div_mod_eq, show n - 1 - k = n - (k + 1) by omega]
      rcases Nat.mod_two_eq_zero_or_one (v.toNat / 2 ^ (n - (k + 1))) with h | h <;> simp [h]
    have hpow : v.toNat / 2 ^ (n - k) = v.toNat / 2 ^ (n - (k + 1)) / 2 := by
      rw [Nat.div_div_eq_div_mul, ← Nat.pow_succ, show (n - (k + 1)).succ = n - k by omega]
    rw [List.range_succ, List.map_append, List.foldl_append, ih (by omega), List.map_singleton, List.foldl_cons,
      List.foldl_nil, hbit, hpow]
    omega

theorem natOfBits_bitsOf {n : Nat} (v : BitVec n) : natOfBits (bitsOf v) = v.toNat := by
  have h := foldl_leadingBits v (Nat.le_refl n)
  rwa [Nat.sub_self, Nat.pow_zero, Nat.div_one] at h

theorem bytesOfBits_bytesBits {bs : List Byte} {fuel : Nat} (h : bs.length ≤ fuel) : bytesOfBits fuel (bytesBits bs) = bs := by
  induction bs generalizing fuel with
  | nil => cases fuel <;> rfl
  | cons b bs ih =>
    cases fuel with
    | zero => simp at h
    | succ fuel =>
      have hsplit : bytesBits (b :: bs) = bitsOf b ++ bytesBits bs := rfl
      have hlen : ¬(bytesBits (b :: bs)).length < 8 := by simp
      rw [bytesOfBits, if_neg hlen, hsplit, List.take_append_of_le_length (by simp), List.take_of_length_le (by simp),
        List.drop_append_of_le_length (by simp), List.drop_of_length_le (by simp), List.nil_append, ih (by simpa using h),
        natOfBits_bitsOf, BitVec.ofNat_toNat, BitVec.setWidth_eq]

/-! ### Stuffing (R114) -/

theorem unstuff_stuff (last : Bool) {run : Nat} (h : run ≤ 6) (bits : List Bool) :
    unstuffFrom last run (stuffFrom last run bits) = some bits := by
  induction bits generalizing last run with
  | nil => rfl
  | cons b bs ih =>
    have hn : (if b = last then run + 1 else 1) ≤ 7 := by split <;> omega
    unfold stuffFrom
    by_cases h7 : (if b = last then run + 1 else 1) = 7
    · rw [if_pos h7, unstuffFrom, if_neg (by omega), h7, unstuffFrom, if_pos rfl, if_neg (by simp), ih _ (by omega)]
      rfl
    · rw [if_neg h7, unstuffFrom, if_neg (by omega), ih _ (by omega)]
      rfl

/-- The dominant bits that stand last where `run` bits equal to `last` do. -/
def dominantRun (last : Bool) (run : Nat) : Nat := if last then 0 else run

/-- No eight dominant bits stand together before the end flag. -/
theorem beforeFlag_stuff (last : Bool) {run : Nat} (h : run ≤ 6) (seen bits : List Bool) :
    beforeFlag (dominantRun last run) seen (stuffFrom last run bits ++ (true :: List.replicate 8 false)) =
      some (true :: ((stuffFrom last run bits).reverse ++ seen)) := by
  induction bits generalizing last run seen with
  | nil => simp [stuffFrom, beforeFlag, List.replicate]
  | cons b bs ih =>
    have hn : (if b = last then run + 1 else 1) ≤ 7 := by split <;> omega
    have hrun : (if b then 0 else dominantRun last run + 1) = dominantRun b (if b = last then run + 1 else 1) := by
      cases b <;> cases last <;> simp [dominantRun]
    have hne : dominantRun b (if b = last then run + 1 else 1) ≠ 8 := by
      unfold dominantRun
      split <;> omega
    unfold stuffFrom
    by_cases h7 : (if b = last then run + 1 else 1) = 7
    · have hnext : (if !b then 0 else dominantRun b 7 + 1) = dominantRun (!b) 1 := by cases b <;> simp [dominantRun]
      rw [if_pos h7, List.cons_append, beforeFlag, hrun, if_neg hne, h7, List.cons_append, beforeFlag, hnext,
        if_neg (by unfold dominantRun; split <;> omega), ih _ (by omega)]
      simp
    · rw [if_neg h7, List.cons_append, beforeFlag, hrun, if_neg hne, ih _ (by omega)]
      simp

/-! ### A message read (R115, R118) -/

theorem word16_bytes16 (v : BitVec 16) : v.extractLsb' 8 8 ++ v.extractLsb' 0 8 = v := by
  ext i hi
  simp only [BitVec.getElem_append, BitVec.getElem_extractLsb']
  split
  · simp [hi]
  · rw [show 8 + (i - 8) = i by omega, BitVec.getLsbD_eq_getElem hi]

theorem length_headerBytes (code : Byte) (h : Header) : (headerBytes code h).length = 12 := rfl

theorem headerOfBytes_headerBytes (code : Byte) (h : Header) (body : List Byte) :
    headerOfBytes (headerBytes code h ++ body) = h := by
  simp [headerOfBytes, headerBytes, bytes16, word16, word16_bytes16]

theorem readCore_coreBits (arb : ArbField) (code : Byte) (h : Header) {body : List Byte}
    (hl : body.length = h.bodyLength.toNat) (hm : body.length ≤ 6073) :
    readCore (coreBits arb (headerBytes code h) body) = some { arb := arb, code := code, header := h, body := body } := by
  let covered := bitsOf arb ++ bytesBits (headerBytes code h) ++ bytesBits body
  have hcovered : covered = bitsOf arb ++ bytesBits (headerBytes code h ++ body) := by
    rw [bytesBits_append, ← List.append_assoc]
  have hlen : covered.length = 112 + 8 * body.length := by
    rw [hcovered, List.length_append, length_bitsOf, length_bytesBits, List.length_append, length_headerBytes]
    omega
  have hbits : coreBits arb (headerBytes code h) body = false :: (covered ++ bitsOf (crc16 covered)) := rfl
  have htotal : (coreBits arb (headerBytes code h) body).length = 129 + 8 * body.length := by
    rw [hbits, List.length_cons, List.length_append, hlen, length_bitsOf]
    omega
  have htake : ((coreBits arb (headerBytes code h) body).drop 1).take
      ((coreBits arb (headerBytes code h) body).length - 17) = covered := by
    rw [htotal, hbits, List.drop_one, List.tail_cons, show 129 + 8 * body.length - 17 = covered.length by omega,
      List.take_left']
    rfl
  have hcheck : (coreBits arb (headerBytes code h) body).drop ((coreBits arb (headerBytes code h) body).length - 16) =
      bitsOf (crc16 covered) := by
    rw [htotal, hbits, show 129 + 8 * body.length - 16 = covered.length + 1 by omega, List.drop_succ_cons, List.drop_left']
    rfl
  have hbytes : bytesOfBits (coreBits arb (headerBytes code h) body).length (covered.drop 16) = headerBytes code h ++ body := by
    rw [hcovered, List.drop_left' (length_bitsOf arb), htotal]
    refine bytesOfBits_bytesBits ?_
    rw [List.length_append, length_headerBytes]
    omega
  have harb : BitVec.ofNat 16 (natOfBits (covered.take 16)) = arb := by
    rw [hcovered, List.take_left' (length_bitsOf arb), natOfBits_bitsOf, BitVec.ofNat_toNat, BitVec.setWidth_eq]
  unfold readCore
  dsimp only
  rw [htake, hcheck, hbytes, headerOfBytes_headerBytes, harb, htotal, if_neg (by omega), if_neg (by omega),
    if_neg (not_not.2 rfl), if_neg (by omega), if_neg (show ¬6073 < _ by omega), List.drop_left' (length_headerBytes code h)]
  rfl

/-- What a receiver judges of the bits that a sender puts on the line. -/
theorem judge_wireBits (arb : ArbField) (code : Byte) (h : Header) {body : List Byte}
    (hl : body.length = h.bodyLength.toNat) (hm : body.length ≤ 6073) :
    judge (wireBits arb (headerBytes code h) body) = some { arb := arb, code := code, header := h, body := body } := by
  have hflag := beforeFlag_stuff false (run := 0) (by omega) [] (coreBits arb (headerBytes code h) body)
  have hwire : wireBits arb (headerBytes code h) body =
      stuffFrom false 0 (coreBits arb (headerBytes code h) body) ++ (true :: List.replicate 8 false) := by
    simp [wireBits, stuff]
  unfold judge
  rw [show dominantRun false 0 = 0 from rfl] at hflag
  rw [hwire, hflag]
  dsimp only
  rw [List.append_nil, List.reverse_reverse, unstuff_stuff false (by omega)]
  exact readCore_coreBits arb code h hl hm

/-! ### Lane words (R135) -/

theorem extract_append_high {n m : Nat} (a : BitVec n) (b : BitVec m) : (a ++ b).extractLsb' m n = a := by
  ext i hi
  simp [BitVec.getElem_extractLsb', BitVec.getLsbD_append, hi]

theorem extract_append_low {n m : Nat} (a : BitVec n) (b : BitVec m) : (a ++ b).extractLsb' 0 m = b := by
  ext i hi
  simp [BitVec.getElem_extractLsb', BitVec.getLsbD_append, hi]

theorem extract_append_middle {n m k : Nat} (a : BitVec n) (b : BitVec m) (c : BitVec k) :
    (a ++ b ++ c).extractLsb' k m = b := by
  ext i hi
  simp [BitVec.getElem_extractLsb', BitVec.getLsbD_append, hi]

theorem extract_append_top {n m k : Nat} (a : BitVec n) (b : BitVec m) (c : BitVec k) :
    (a ++ b ++ c).extractLsb' (m + k) n = a := by
  ext i hi
  rw [BitVec.getElem_extractLsb', BitVec.getLsbD_append, if_neg (by omega), BitVec.getLsbD_append, if_neg (by omega),
    show m + k + i - k - m = i by omega, BitVec.getLsbD_eq_getElem hi]

theorem msb_append_append (present : Bool) {m k : Nat} (b : BitVec m) (c : BitVec k) :
    (BitVec.ofBool present ++ b ++ c).msb = present := by
  cases present <;> simp [BitVec.msb_append]

theorem controlWord_code (code : BitVec 4) (content : BitVec 24) : (controlWordBits code content).extractLsb' 32 4 = code :=
  extract_append_top code content (laneCheck code content)

theorem controlWord_content (code : BitVec 4) (content : BitVec 24) :
    (controlWordBits code content).extractLsb' 8 24 = content :=
  extract_append_middle code content (laneCheck code content)

theorem controlWord_check (code : BitVec 4) (content : BitVec 24) :
    (controlWordBits code content).extractLsb' 0 8 = laneCheck code content :=
  extract_append_low (code ++ content) (laneCheck code content)

theorem classify_cells (area : Area) (c : CellWord) :
    classifyLaneWord ((match area with | .payload => (0x0 : BitVec 4) | .control => 0x1) ++ c) = .cells area c := by
  unfold classifyLaneWord
  dsimp only
  rw [extract_append_high (n := 4) (m := 32), extract_append_low (n := 4) (m := 32)]
  cases area <;> simp

/-- A control word is classified by its code and content, its check being good. -/
theorem classify_control (code : BitVec 4) (content : BitVec 24) (h0 : code ≠ 0x0) (h1 : code ≠ 0x1) :
    classifyLaneWord (controlWordBits code content) =
      if code = 0x9 then if content == 0x3CC3A5 then .marker else .corrupt
      else if code = 0xF then if content == 0x5A0FF0 then .idle else .corrupt
      else if code = 0x6 then
        if content.extractLsb' 0 15 == 0 then .status content.msb (content.extractLsb' 15 8) else .corrupt
      else .corrupt := by
  unfold classifyLaneWord
  dsimp only
  rw [controlWord_code, controlWord_content, controlWord_check, if_neg h0, if_neg h1]
  simp

theorem classify_status (present : Bool) (quality : Byte) :
    classifyLaneWord (controlWordBits 0x6 (BitVec.ofBool present ++ quality ++ (0 : BitVec 15))) = .status present quality := by
  have hlow : (BitVec.ofBool present ++ quality ++ (0 : BitVec 15)).extractLsb' 0 15 = 0 := extract_append_low _ _
  have hquality : (BitVec.ofBool present ++ quality ++ (0 : BitVec 15)).extractLsb' 15 8 = quality :=
    extract_append_middle (BitVec.ofBool present) quality 0
  have hmsb : (BitVec.ofBool present ++ quality ++ (0 : BitVec 15)).msb = present := msb_append_append _ _ _
  rw [classify_control _ _ (by decide) (by decide), hlow, hquality, hmsb]
  rfl

/-- Settles O31. -/
theorem wireFormatsReadBack : Obligations.WireFormatsReadBack := by
  refine ⟨fun arb code h body hl hm => judge_wireBits arb code h hl hm, fun w hw => ?_⟩
  cases w with
  | cells area c =>
    cases area with
    | payload => exact ⟨_, rfl, classify_cells .payload c⟩
    | control => exact ⟨_, rfl, classify_cells .control c⟩
  | marker => exact ⟨_, rfl, classify_control _ _ (by decide) (by decide)⟩
  | status present quality => exact ⟨_, rfl, classify_status present quality⟩
  | idle => exact ⟨_, rfl, classify_control _ _ (by decide) (by decide)⟩
  | corrupt => exact absurd rfl hw

end Sys2Proof.Machine

/-! PROOFS. O33, O34, O52: contention, the end of an attempt, and this station's own acknowledgements. -/

namespace Sys2Proof.Machine

-- one theorem at a time: elaborated side by side, they would hold more threads than the check allows
set_option Elab.async false

/-! ### Contention (R117, R134) -/

theorem winsArbitration_iff (own : ArbField) (rivals : List ArbField) :
    winsArbitration own rivals = true ↔ ∀ r ∈ rivals, own ≤ r := lowestFieldWinsArbitration.1 own rivals

theorem contend_wins {s : State} {e : Entry} {q : List Entry} {rivals : List ArbField} (hl : s.lnk.state = .joined)
    (ha : s.lnk.attempt = none) (hq : s.lnk.queue = e :: q) (hw : ∀ r ∈ rivals, e.arb ≤ r) :
    contend s rivals =
      setLink s { s.lnk with attempt := some (takeMessage s e), queue := { e with rewritten := false } :: q } := by
  unfold contend
  rw [if_neg (by simp [hl, ha]), hq]
  exact if_pos ((winsArbitration_iff _ _).2 hw)

theorem contend_loses {s : State} {e : Entry} {q : List Entry} {rivals : List ArbField} (hq : s.lnk.queue = e :: q)
    {r : ArbField} (hr : r ∈ rivals) (hlt : r < e.arb) : contend s rivals = s := by
  unfold contend
  split
  · rfl
  · rw [hq]
    exact if_neg fun h => absurd ((winsArbitration_iff _ _).1 h r hr) (BitVec.not_le.2 hlt)

theorem contend_idle {s : State} {rivals : List ArbField} (hq : s.lnk.queue = []) : contend s rivals = s := by
  unfold contend
  split
  · rfl
  · rw [hq]

theorem bodyOf_parcel {s : State} {e : Entry} {k : Option Nat} {w : Walk} {x : StreamId} {f : FrameCount} {r : ParcelRecord}
    (hb : e.body = .parcel k w) (hx : e.stream = some x) (hf : e.frame = some f) (hr : recordOf s x f = some r) :
    bodyOf s e = (parcelBody r k w (r.kind == .unit && hasUnits s x) (payloadOf s r), r.kind == .unit && hasUnits s x) := by
  obtain ⟨-, rfl, -⟩ := recordOf_key hr
  simp [bodyOf, hb, hx, hf, hr]

/-- The payload stands behind the fixed fields and the unit offsets. -/
theorem drop_parcelBody (r : ParcelRecord) (k : Option Nat) (w : Walk) (offsets : Bool) (payload : List Byte) :
    (parcelBody r k w offsets payload).drop (11 + if offsets then 2 * w.units.length else 0) = payload := by
  have hunits : (w.units.flatMap (fun o => bytes16 (BitVec.ofNat 16 o))).length = 2 * w.units.length := by
    simp [bytes16, List.length_flatMap, Nat.mul_comm]
  unfold parcelBody
  refine List.drop_left' ?_
  cases offsets
  · simp [bytes16]
  · simp only [List.length_append, hunits, if_true]
    simp [bytes16]

/-- Settles O33. -/
theorem contentionTakesHead : Obligations.ContentionTakesHead := by
  intro s t rivals hs
  refine ⟨fun e q hl ha hq hw => ?_, fun e q r hq hr hlt => ?_, fun h => ?_⟩
  · refine ⟨takeMessage (s.clocked t) e, exec_eq hs rfl (contend_wins (s := s.clocked t) hl ha hq hw)
      (hs.2.congr rfl rfl rfl rfl rfl rfl), rfl, rfl, rfl, rfl, rfl, rfl, rfl, rfl, rfl, rfl, rfl, ?_, ?_, rfl, rfl, rfl, rfl,
      fun hb => ?_, fun reason hb => ?_, fun k w x f r hb hx hf hr => ?_⟩
    · rw [takeMessage]
      cases e.stream <;> rfl
    · rw [takeMessage]
      cases e.frame <;> rfl
    · have hbody : bodyOf (s.clocked t) e = (statusBody s, false) := by rw [bodyOf, hb]; rfl
      simp [takeMessage, hbody]
    · have hbody : bodyOf (s.clocked t) e = ([reasonCode reason], false) := by rw [bodyOf, hb]
      simp [takeMessage, hbody]
    · have hbody := bodyOf_parcel (s := s.clocked t) hb hx hf hr
      have hcarry : (takeMessage (s.clocked t) e).carryOut = w.carryOut := by simp [takeMessage, carryOutOf, hb]
      have hheld : (takeMessage (s.clocked t) e).body = _ := congrArg Prod.fst hbody
      refine ⟨?_, hcarry, hheld, (congrArg _ hheld).trans (drop_parcelBody _ _ _ _ _)⟩
      simp only [takeMessage, hbody]
      rfl
  · exact exec_eq hs rfl (contend_loses (s := s.clocked t) hq hr hlt) (settled_clocked hs t)
  · refine exec_eq hs rfl ?_ (settled_clocked hs t)
    rcases h with h | h
    · exact contend_of_not_joined (s := s.clocked t) h rivals
    · exact contend_idle (s := s.clocked t) h

/-! ### The end of an attempt (R119, R129, R130) -/

theorem uid_of_find? {q : List Entry} {n : Nat} {e : Entry} (h : q.find? (fun k => k.uid == n) = some e) : e.uid = n := by
  simpa using List.find?_some h

theorem endAttempt_eq {s : State} {a : Attempt} (h : s.lnk.attempt = some a) (rejected : Bool) :
    endAttempt s rejected = if rejected then failAttempt s a else completeAttempt s a := by
  rw [endAttempt, h]

section

variable {s : State} {a : Attempt} {e : Entry} (h : s.lnk.queue.find? (fun k => k.uid == a.uid) = some e)
include h

theorem entryOfAttempt_offLine : entryOfAttempt (offLine s) a = some e := h

theorem failAttempt_rewritten (hr : e.rewritten = true) (hk : e.kind = .status ∨ e.kind = .trace) :
    failAttempt s a = updateEntry (offLine s) e.uid (fun k => { k with attempts := 0, rewritten := false }) := by
  unfold failAttempt
  dsimp only
  rw [entryOfAttempt_offLine h]
  exact if_pos ⟨hr, hk⟩

theorem failAttempt_counted (hn : ¬(e.rewritten = true ∧ (e.kind = .status ∨ e.kind = .trace))) (hc : e.attempts < 3) :
    failAttempt s a =
      updateEntry (offLine s) e.uid (fun k => { k with attempts := k.attempts + 1, rewritten := false }) := by
  unfold failAttempt
  dsimp only
  rw [entryOfAttempt_offLine h]
  exact (if_neg hn).trans (if_neg (by omega))

theorem failAttempt_dropped (hr : e.rewritten = false) (hc : e.attempts = 3) :
    failAttempt s a = tellOwner (countLinkDrop (removeEntry (offLine s) e.uid)) e := by
  unfold failAttempt
  dsimp only
  rw [entryOfAttempt_offLine h]
  exact (if_neg (by simp [hr])).trans (if_pos (by omega))

/-- A message of this station's that concerns no stream-frame completes. -/
theorem completeAttempt_sent (hp : a.kind ≠ .parcel) (hg : a.kind ≠ .gap) (hr : e.rewritten = false) :
    completeAttempt s a = entrySent (offLine s) e := by
  unfold completeAttempt
  dsimp only
  rw [entryOfAttempt_offLine h]
  split
  · exact absurd ‹a.kind = .parcel› hp
  · exact absurd ‹a.kind = .gap› hg
  · exact if_neg (by simp [hr])

theorem completeAttempt_rewritten (hp : a.kind ≠ .parcel) (hg : a.kind ≠ .gap) (hr : e.rewritten = true) :
    completeAttempt s a = updateEntry (offLine s) e.uid (fun k => { k with attempts := 0, rewritten := false }) := by
  unfold completeAttempt
  dsimp only
  rw [entryOfAttempt_offLine h]
  split
  · exact absurd ‹a.kind = .parcel› hp
  · exact absurd ‹a.kind = .gap› hg
  · exact if_pos hr

/-- The attempt off the line, and its entry counted anew. -/
theorem updateEntry_offLine (g : Entry → Entry) : updateEntry (offLine s) e.uid g = { s with lnk := { s.lnk with
    attempt := none, queue := s.lnk.queue.map (fun k => if k.uid = a.uid then g k else k) } } := by
  simp [updateEntry, setQueue, offLine, setLink, uid_of_find? h]

theorem removeEntry_offLine : removeEntry (offLine s) e.uid = { s with lnk := { s.lnk with
    attempt := none, queue := s.lnk.queue.filter (fun k => !(k.uid == a.uid)) } } := by
  simp [removeEntry, withdraw, setQueue, offLine, setLink, uid_of_find? h]

end

theorem tellOwner_other {s : State} {e : Entry} (hp : e.kind ≠ .parcel) (hm : e.kind ≠ .map) : tellOwner s e = s := by
  unfold tellOwner
  split
  · exact absurd ‹_› hp
  · exact absurd ‹_› hm
  · rfl

theorem tellOwner_parcel {s : State} {e : Entry} (hp : e.kind = .parcel) : tellOwner s e = tellStore s e := by
  rw [tellOwner, hp]

theorem tellStore_parcel {s : State} {e : Entry} {x : StreamId} {f : FrameCount} (hp : e.kind = .parcel)
    (hx : e.stream = some x) (hf : e.frame = some f) : tellStore s e = freeRecord s x f := by
  rw [tellStore, hp, hx, hf]

/-- The counters and the queue once an owner that is not the map unit is told. -/
theorem tellOwner_store {s : State} {e : Entry} (hm : e.kind ≠ .map) :
    Within [.store, .queue] s (tellOwner s e) ∧ (tellOwner s e).lnk.queue.Sublist s.lnk.queue := by
  by_cases hp : e.kind = .parcel
  · rw [tellOwner_parcel hp]
    exact ⟨within_tellStore _ _, tellStore_queue_sublist _ _⟩
  · rw [tellOwner_other hp hm]
    exact ⟨.refl _ _, .refl _⟩

theorem countLinkDrop_counters (s : State) : (countLinkDrop s).mod.counters = { s.mod.counters with
    linkDrops := if s.mod.counters.linkDrops = 65535 then 65535 else s.mod.counters.linkDrops + 1 } := by
  rw [countLinkDrop_mod_counters, bump_eq]

theorem map_uid_congr {q : List Entry} {e : Entry} {n : Nat} (hn : (q.map (·.uid)).Nodup)
    (h : q.find? (fun k => k.uid == n) = some e) {g : Entry → Entry} {u : Entry → Entry} (hg : g e = u e) :
    q.map (fun k => if k.uid = n then g k else k) = q.map (fun k => if k.uid = n then u k else k) := by
  refine List.map_congr_left fun k hk => ?_
  split
  · rename_i hu
    rw [List.inj_on_of_nodup_map hn hk (List.mem_of_find?_eq_some h) (hu.trans (uid_of_find? h).symm), hg]
  · rfl

/-- Settles O34. -/
theorem attemptEndSettlesEntry : Obligations.AttemptEndSettlesEntry := by
  intro s t a e hs ha he
  have hfail : endAttempt (s.clocked t) true = failAttempt (s.clocked t) a := endAttempt_eq (s := s.clocked t) ha true
  have hdone : endAttempt (s.clocked t) false = completeAttempt (s.clocked t) a := endAttempt_eq (s := s.clocked t) ha false
  have he' : (s.clocked t).lnk.queue.find? (fun k => k.uid == a.uid) = some e := he
  refine ⟨fun hn => ⟨fun hk hc => ?_, fun hr hk => ?_⟩, fun hr hc hm => ?_, fun hak hk => ⟨fun hr => ?_, fun hr => ?_⟩⟩
  · refine exec_eq hs rfl ((hfail.trans (failAttempt_counted he' hk hc)).trans ((updateEntry_offLine he' _).trans ?_))
      (hs.2.congr rfl rfl rfl rfl rfl rfl)
    have hmap := map_uid_congr hn he (g := fun k => { k with attempts := k.attempts + 1, rewritten := false })
      (u := fun k => { k with attempts := e.attempts + 1, rewritten := false }) rfl
    rw [State.clocked_lnk, hmap]
  · exact exec_eq hs rfl ((hfail.trans (failAttempt_rewritten he' hr hk)).trans (updateEntry_offLine he' _))
      (hs.2.congr rfl rfl rfl rfl rfl rfl)
  · have hremove := removeEntry_offLine he'
    obtain ⟨hw, hq⟩ := tellOwner_store (s := countLinkDrop (removeEntry (offLine (s.clocked t)) e.uid)) hm
    have hset : Settled (countLinkDrop (removeEntry (offLine (s.clocked t)) e.uid)) :=
      Settled.congr hs.2 rfl rfl rfl rfl rfl rfl
    refine ⟨_, exec_eq hs rfl (hfail.trans (failAttempt_dropped he' hr hc)) (hset.within hw), ?_, fun k hk => ?_, ?_,
      fun x f hp hx hf => ?_, ?_⟩
    · exact hw.attempt
    · have hmem := hq.subset hk
      rw [countLinkDrop_lnk, hremove] at hmem
      simpa using (List.mem_filter.1 hmem).2
    · exact hw.counters.trans (countLinkDrop_counters _)
    · rw [tellOwner_parcel hp, tellStore_parcel hp hx hf, recordOf_freeRecord_self]
    · exact (((within_clocked s t).mono.trans (within_offLine _).mono).trans (within_removeEntry _ _).mono).trans
        ((within_countLinkDrop _).mono.trans hw.mono)
  · have hp : a.kind ≠ .parcel ∧ a.kind ≠ .gap := by rw [hak]; rcases hk with hk | hk <;> simp [hk]
    refine exec_eq hs rfl ((hdone.trans (completeAttempt_sent he' hp.1 hp.2 hr)).trans ?_)
      (hs.2.congr rfl rfl rfl rfl rfl rfl)
    unfold entrySent
    rw [tellOwner_other (by rcases hk with hk | hk <;> simp [hk]) (by rcases hk with hk | hk <;> simp [hk]),
      removeEntry_offLine he']
    rcases hk with hk | hk <;> simp [hk]
  · have hp : a.kind ≠ .parcel ∧ a.kind ≠ .gap := by rw [hak]; rcases hk with hk | hk <;> simp [hk]
    exact exec_eq hs rfl ((hdone.trans (completeAttempt_rewritten he' hp.1 hp.2 hr)).trans (updateEntry_offLine he' _))
      (hs.2.congr rfl rfl rfl rfl rfl rfl)

/-! ### Acknowledgements of this station's own (R178, R181) -/

/-- What completes this station's attempt, at its end slot or as its message. -/
theorem completeOwn_eq {s : State} {a : Attempt} {k : MsgKind} (ha : s.lnk.attempt = some a) (hk : a.kind = k) :
    completeOwn s k = completeAttempt s a := by
  rw [completeOwn, ha]
  exact if_pos hk

theorem exec_completes {s : State} {t : Instant} {a : Attempt} {c : Instr} (hs : Awake s) (ha : s.lnk.attempt = some a)
    (hc : c = .attemptEnd t false ∨ (a.kind = .drained ∧ c = .drained t .own) ∨ (a.kind = .quiesced ∧ c = .quiesced t .own))
    {u : State} (hu : completeAttempt (s.clocked t) a = u) (hset : Settled u) : exec c s = .next u := by
  rcases hc with rfl | ⟨hk, rfl⟩ | ⟨hk, rfl⟩
  · exact exec_eq hs rfl ((endAttempt_eq (s := s.clocked t) ha false).trans hu) hset
  · exact exec_eq hs rfl ((completeOwn_eq (s := s.clocked t) ha hk).trans hu) hset
  · exact exec_eq hs rfl ((completeOwn_eq (s := s.clocked t) ha hk).trans hu) hset

theorem completeAttempt_cleared {s : State} {a : Attempt} (h : s.lnk.queue.find? (fun k => k.uid == a.uid) = none)
    (hp : a.kind ≠ .parcel) (hg : a.kind ≠ .gap) : completeAttempt s a = offLine s := by
  unfold completeAttempt
  dsimp only
  rw [show entryOfAttempt (offLine s) a = none from h]
  split
  · exact absurd ‹a.kind = .parcel› hp
  · exact absurd ‹a.kind = .gap› hg
  · rfl

/-- No claim is held, and none is open to review. -/
def Claimless (s : State) : Prop := s.sub.claims = [] ∧ s.sub.claimLoad = 0 ∧ s.sub.claimsOpen = false

/-- A part outside RUNNING holds no claims. -/
theorem claimless_of_mode {s : State} (h : Settled s) (hm : s.mod.mode ≠ .running) : Claimless s :=
  h.claimless (by simp [claimsAllowed, hm])

theorem Claimless.settled {s : State} (h : Claimless s) : Settled s := .inr h

theorem Claimless.within {ps : List Part} {a b : State} (h : Claimless a) (hw : Within ps a b)
    (hc : Part.claims ∉ ps := by decide) : Claimless b := by
  unfold Claimless
  rw [hw.claims hc, hw.claimLoad hc, hw.claimsOpen hc]
  exact h

/-- Entry to QUIESCED of a station that holds no claims: the mode, and an empty queue. -/
theorem enterQuiesced_claimless {s : State} (h : Claimless s) :
    enterQuiesced s = clearQueue (setMode s .quiesced) (fun _ => false) ∧
    Within [.mode, .store, .queue] s (enterQuiesced s) ∧ (enterQuiesced s).lnk.queue = [] ∧
    (enterQuiesced s).mod.mode = .quiesced ∧ (enterQuiesced s).mod.returnMode = s.mod.returnMode := by
  have hw : Within [.mode, .store, .queue] s (clearQueue (setMode s .quiesced) (fun _ => false)) :=
    (within_setMode s _).mono.trans (within_clearQueue _ _).mono
  have he : enterQuiesced s = clearQueue (setMode s .quiesced) (fun _ => false) :=
    settleClaims_of_settled (h.within hw).settled
  have hq := clearQueue_queue_sublist (setMode s .quiesced) (fun _ => false)
  rw [he]
  exact ⟨rfl, hw, List.sublist_nil.1 (by simpa using hq), (within_clearQueue _ _).mode,
    (within_clearQueue _ _).returnMode⟩

/-- The DRAINED or QUIESCED of this station leaves the queue and takes its effect. -/
theorem entrySent_acknowledged {s : State} {e : Entry} (hk : e.kind = .drained ∨ e.kind = .quiesced) :
    entrySent s e =
      if e.kind = .drained ∧ s.mod.mode = .draining then endDraining (removeEntry s e.uid)
      else if e.kind = .quiesced ∧ s.mod.mode = .quiescing then enterQuiesced (removeEntry s e.uid)
      else removeEntry s e.uid := by
  unfold entrySent
  rw [tellOwner_other (by rcases hk with hk | hk <;> simp [hk]) (by rcases hk with hk | hk <;> simp [hk])]
  rfl

/-- Settles O52. -/
theorem ownAcknowledgementsEndModes : Obligations.OwnAcknowledgementsEndModes := by
  refine ⟨fun s t a e c hs ha he hak hr => ⟨fun hk hm hc => ?_, fun hk hm hc => ?_⟩, fun s t a c hs ha he hc => ?_,
    fun s t m hs => ⟨fun h => exec_heard hs h rfl rfl (settled_setEndSlot hs t _),
      fun h => exec_heard hs h rfl rfl (settled_setEndSlot hs t _), fun h => exec_heard hs h rfl rfl (settled_setEndSlot hs t _)⟩⟩
  · have hc : c = .attemptEnd t false ∨ (a.kind = .drained ∧ c = .drained t .own) ∨ (a.kind = .quiesced ∧ c = .quiesced t .own) :=
      hc.imp_right fun hc => .inl ⟨hak.trans hk, hc⟩
    have hless : Claimless s := claimless_of_mode hs.2 (by simp [hm])
    have hdone : completeAttempt (s.clocked t) a = endDraining (removeEntry (offLine (s.clocked t)) e.uid) :=
      (completeAttempt_sent (s := s.clocked t) he (by simp [hak, hk]) (by simp [hak, hk]) hr).trans
        ((entrySent_acknowledged (.inl hk)).trans (if_pos ⟨hk, hm⟩))
    refine ⟨fun hb => exec_completes hs ha hc (hdone.trans ?_) (.inr hless), fun hb => ?_⟩
    · rw [removeEntry_offLine (s := s.clocked t) he]
      simp [endDraining, hb, leaveDraining]
    · have hend : endDraining (removeEntry (offLine (s.clocked t)) e.uid) =
          enterQuiesced (leaveDraining (removeEntry (offLine (s.clocked t)) e.uid) .quiesced) := by
        have hback : (removeEntry (offLine (s.clocked t)) e.uid).mod.returnMode.getD .running = .quiesced := by
          rw [show (removeEntry (offLine (s.clocked t)) e.uid).mod.returnMode = some .quiesced from hb]
          rfl
        simp only [endDraining, hback]
      have hleft : Claimless (leaveDraining (removeEntry (offLine (s.clocked t)) e.uid) .quiesced) := hless
      obtain ⟨-, hw, hq, hmode, hreturn⟩ := enterQuiesced_claimless hleft
      refine ⟨_, exec_completes hs ha hc (hdone.trans hend) (hleft.within hw).settled, hmode, hreturn, hq, hw.attempt, ?_⟩
      exact (((within_clocked s t).mono.trans (within_offLine _).mono).trans (within_removeEntry _ _).mono).trans
        ((within_leaveDraining _ _).mono.trans hw.mono)
  · have hc : c = .attemptEnd t false ∨ (a.kind = .drained ∧ c = .drained t .own) ∨ (a.kind = .quiesced ∧ c = .quiesced t .own) :=
      hc.imp_right fun hc => .inr ⟨hak.trans hk, hc⟩
    have hless : Claimless (removeEntry (offLine (s.clocked t)) e.uid) :=
      show Claimless s from claimless_of_mode hs.2 (by simp [hm])
    obtain ⟨-, hw, hq, hmode, -⟩ := enterQuiesced_claimless hless
    have hdone : completeAttempt (s.clocked t) a = enterQuiesced (removeEntry (offLine (s.clocked t)) e.uid) :=
      (completeAttempt_sent (s := s.clocked t) he (by simp [hak, hk]) (by simp [hak, hk]) hr).trans
        ((entrySent_acknowledged (.inr hk)).trans ((if_neg (by simp [hk])).trans (if_pos ⟨hk, hm⟩)))
    refine ⟨_, exec_completes hs ha hc hdone (hless.within hw).settled, hmode, hq, hw.attempt, ?_⟩
    exact (((within_clocked s t).mono.trans (within_offLine _).mono).trans (within_removeEntry _ _).mono).trans hw.mono
  · have hc' : c = .attemptEnd t false ∨ (a.kind = .drained ∧ c = .drained t .own) ∨ (a.kind = .quiesced ∧ c = .quiesced t .own) := by
      rcases hc with ⟨hk, rfl | rfl⟩ | ⟨hk, rfl | rfl⟩ <;> simp [hk]
    have hk : a.kind ≠ .parcel ∧ a.kind ≠ .gap := by rcases hc with ⟨hk, -⟩ | ⟨hk, -⟩ <;> simp [hk]
    exact exec_completes hs ha hc' (completeAttempt_cleared (s := s.clocked t) he hk.1 hk.2)
      (hs.2.congr rfl rfl rfl rfl rfl rfl)

end Sys2Proof.Machine

/-! PROOFS. O26, O27: offer instants, discard instants and deadlines. -/

namespace Sys2Proof.Machine

-- one theorem at a time: elaborated side by side, they would hold more threads than the check allows
set_option Elab.async false

/-! ### Records and cursors looked up -/

theorem recordOf_congr {a b : State} (h : b.pst.records = a.pst.records) (x : StreamId) (f : FrameCount) :
    recordOf b x f = recordOf a x f := by
  unfold recordOf
  rw [h]

/-- What a lookup finds after an update that keeps the record's stream-frame. -/
theorem recordOf_updateRecord {s : State} {x : StreamId} {f : FrameCount} {r : ParcelRecord} (h : recordOf s x f = some r)
    {g : ParcelRecord → ParcelRecord} (hg : ∀ r, (g r).stream = r.stream ∧ (g r).frame = r.frame) :
    recordOf (updateRecord s x f g) x f = some (g r) := by
  unfold recordOf updateRecord
  rw [List.find?_map]
  have hs : ((fun r : ParcelRecord => r.stream == x && r.frame == f) ∘ fun r => if r.stream == x && r.frame == f then g r else r) =
      fun r => r.stream == x && r.frame == f := by
    funext r
    dsimp only [Function.comp]
    split
    · rw [(hg r).1, (hg r).2]
    · rfl
  rw [hs, show s.pst.records.find? _ = some r from h, Option.map_some]
  obtain ⟨-, rfl, rfl⟩ := recordOf_key h
  simp

/-- A copy that there is room for is queued, and its record is QUEUED. -/
theorem queueParcel_of_room {s : State} {r : ParcelRecord} (h : RoomFor s .parcel (some r.stream) (some r.frame)) :
    queueParcel s r =
      updateRecord (insertNew s (parcelEntry s r)) r.stream r.frame (fun r => { r with state := .queued }) := by
  have ho : offer s (parcelEntry s r) = (insertNew s (parcelEntry s r), true) := offer_of_room h (by simp [parcelEntry, newEntry])
  unfold queueParcel
  rw [ho]
  rfl

theorem handOver_here {s : State} {r : ParcelRecord} {c : Cursor} (hc : cursorOf s r.stream = some c)
    (h : c.cursor = none ∨ c.cursor = some r.frame) : handOver s r = queueParcel s r := by
  rw [handOver, hc]
  exact if_pos h

theorem handOver_elsewhere {s : State} {r : ParcelRecord} {c : Cursor} {g : FrameCount} (hc : cursorOf s r.stream = some c)
    (h : c.cursor = some g) (hg : g ≠ r.frame) :
    handOver s r = updateRecord s r.stream r.frame (fun r => { r with state := .held }) := by
  rw [handOver, hc]
  exact if_neg (by simp [h, hg])

/-! ### Offer and discard instants (R103, R107, R157) -/

/-- A HELD record leaves the store without a change to the queue. -/
theorem freeRecord_held {s : State} {x : StreamId} {f : FrameCount} {r : ParcelRecord} (h : recordOf s x f = some r)
    (hr : r.state = .held) : freeRecord s x f = { s with pst := { s.pst with
      records := s.pst.records.filter (fun q => !(q.stream == x && q.frame == f)),
      freePages := s.pst.freePages ++ r.pages } } := by
  rw [freeRecord_some h, if_neg (by simp [hr])]

theorem exec_offerInstant {s u : State} {t d : Instant} {x : StreamId} {f : FrameCount} {r : ParcelRecord} (hs : Awake s)
    (hr : recordOf s x f = some r) (hw : r.state = .waiting) (ho : r.offerAt = some d) (hd : d ≤ max s.now t)
    (hu : handOver (s.clocked t) r = u) (hset : Settled u) : exec (.offerInstant t x f) s = .next u := by
  refine exec_eq hs rfl ?_ hset
  rw [recordOf_clocked, hr]
  dsimp only
  rw [ho]
  exact (if_pos ⟨hw, due_of_le hd⟩).trans hu

/-- Settles O26. -/
theorem offerAndDiscardInstants : Obligations.OfferAndDiscardInstants := by
  refine ⟨fun s t d x f r c hs hr hw ho hd hc => ?_, fun s t d x f r hs hr hh ho hd => ?_⟩
  · obtain ⟨-, rfl, rfl⟩ := recordOf_key hr
    have hc' : cursorOf (s.clocked t) r.stream = some c := hc
    refine ⟨fun hhere hroom => ?_, fun g hg hne => ?_⟩
    · have hu := (handOver_here hc' hhere).trans (queueParcel_of_room (s := s.clocked t) hroom)
      have hwithin := ((within_clocked s t).mono.trans (within_insertNew _ (parcelEntry (s.clocked t) r)).mono).trans
        (within_updateRecord _ r.stream r.frame (fun r => { r with state := .queued })).mono (ps := [.time, .store, .queue])
      have hrec : recordOf (insertNew (s.clocked t) (parcelEntry (s.clocked t) r)) r.stream r.frame = some r :=
        (recordOf_congr rfl _ _).trans hr
      exact ⟨_, exec_offerInstant hs hr hw ho hd hu (hs.2.within hwithin), recordOf_updateRecord hrec fun _ => ⟨rfl, rfl⟩,
        ⟨_, numbered_mem (s.clocked t) (parcelEntry (s.clocked t) r), rfl, rfl, rfl, rfl, rfl⟩, length_insertNew _ _, rfl, hwithin⟩
    · have hu := handOver_elsewhere hc' hg hne
      have hwithin := (within_clocked s t).mono.trans
        (within_updateRecord _ r.stream r.frame (fun r => { r with state := .held })).mono (ps := [.time, .store])
      exact ⟨_, exec_offerInstant hs hr hw ho hd hu (hs.2.within hwithin),
        recordOf_updateRecord (s := s.clocked t) hr fun _ => ⟨rfl, rfl⟩, rfl, hwithin⟩
  · refine exec_eq hs rfl ?_ (hs.2.congr rfl rfl rfl rfl rfl rfl)
    rw [recordOf_clocked, hr]
    dsimp only
    rw [ho]
    exact (if_pos ⟨hh, due_of_le hd⟩).trans (freeRecord_held (s := s.clocked t) hr hh)

/-! ### Deadlines (R162) -/

theorem queueGap_of_room {s : State} {x : StreamId} {f : FrameCount} (h : RoomFor s .gap (some x) (some f)) (y : GapReason) :
    queueGap s x f y = insertNew s (newEntry s .gap (some x) (some f) 0 (.gap y)) :=
  offerAnyway_of_room h (by simp [newEntry])

theorem unusableHeld_iff {s : State} {x : StreamId} {f : FrameCount} :
    unusableHeld s x f = true ↔ ∃ r, recordOf s x f = some r ∧ r.state = .held ∧ usableRecord r = false := by
  unfold unusableHeld
  cases recordOf s x f <;> simp

theorem specHeldRecord_iff {s : State} {x : StreamId} {f : FrameCount} :
    specHeldRecord s x f = true ↔ ∃ r, recordOf s x f = some r ∧ r.state = .specHeld := by
  unfold specHeldRecord
  cases recordOf s x f <;> simp

theorem gapsSilent_iff (s : State) : gapsSilent s = true ↔ s.mod.mode = .quiescing ∨ s.mod.mode = .quiesced := by
  simp [gapsSilent]

/-- The cursor of a deadline that has expired. -/
def Cursor.lapse (c : Cursor) : Cursor := { c with deadline := .lapsed }

theorem expireDeadline_silent {s : State} {x : StreamId} {f : FrameCount}
    (h : gapsSilent s = true ∨ queued s .parcel (some x) (some f) = true) :
    expireDeadline s x f = updateCursor s x Cursor.lapse := by
  have hs : (if gapsSilent s = true then s else answerDeadline s x f) = s := by
    split
    · rfl
    · rename_i hn
      exact if_pos (h.resolve_left hn)
  exact congrArg (fun a => updateCursor a x Cursor.lapse) hs

theorem expireDeadline_answered {s : State} {x : StreamId} {f : FrameCount} (h : gapsSilent s = false) :
    expireDeadline s x f = updateCursor (answerDeadline s x f) x Cursor.lapse :=
  congrArg (fun a => updateCursor a x Cursor.lapse) (if_neg (by simp [h]))

section

variable {s : State} {x : StreamId} {f : FrameCount} (hp : queued s .parcel (some x) (some f) = false)
include hp

theorem answerDeadline_unusable (h : unusableHeld s x f = true) :
    answerDeadline s x f = freeRecord (queueGap s x f .unusable) x f :=
  (if_neg (by simp [hp])).trans (if_pos h)

theorem answerDeadline_late (h : unusableHeld s x f = false) (hl : ((jobOf s x f).isSome || specHeldRecord s x f) = true) :
    answerDeadline s x f = queueGap s x f .late :=
  (if_neg (by simp [hp])).trans ((if_neg (by simp [h])).trans (if_pos hl))

theorem answerDeadline_notDecoded (h : unusableHeld s x f = false)
    (hl : ((jobOf s x f).isSome || specHeldRecord s x f) = false) : answerDeadline s x f = queueGap s x f .notDecoded :=
  (if_neg (by simp [hp])).trans ((if_neg (by simp [h])).trans (if_neg (by simp [hl])))

end

/-- The expiry lapses the deadline, whatever is answered. -/
theorem cursorOf_lapse {s a : State} {x : StreamId} {c : Cursor} (ha : a.dlv.cursors = s.dlv.cursors)
    (hc : cursorOf s x = some c) : cursorOf (updateCursor a x Cursor.lapse) x = some { c with deadline := .lapsed } := by
  rw [cursorOf_updateCursor a x x (g := Cursor.lapse) fun _ => rfl, if_pos rfl, cursorOf_congr ha, hc]
  rfl

theorem updateCursor_eq (s : State) (x : StreamId) (g : Cursor → Cursor) : updateCursor s x g =
    { s with dlv := { s.dlv with cursors := s.dlv.cursors.map (fun c => if c.stream = x then g c else c) } } := by
  simp [updateCursor]

/-- Settles O27. -/
theorem deadlineAnswered : Obligations.DeadlineAnswered := by
  intro s t d x f c hs hc hf hr hd held late answered
  have hexp {u : State} (hu : expireDeadline (s.clocked t) x f = u) (hset : Settled u) : exec (.deadline t x) s = .next u := by
    refine exec_eq hs rfl ?_ hset
    rw [cursorOf_clocked, hc]
    dsimp only
    rw [hf, hr]
    exact (if_pos hd).trans hu
  have hgap (y : GapReason) : Within [.time, .queue] s
      (insertNew (s.clocked t) (newEntry (s.clocked t) .gap (some x) (some f) 0 (.gap y))) :=
    (within_clocked s t).mono.trans (within_insertNew _ _).mono
  refine ⟨?_, fun hm => ?_, fun hm1 hm2 hq hroom => ?_⟩
  · refine ⟨_, hexp rfl (hs.2.within ((within_clocked s t).mono.trans (within_expireDeadline _ x f).mono :
      Within [.time, .store, .queue, .counters, .mapUnit, .cursors] s _)), ?_⟩
    refine cursorOf_lapse (s := s.clocked t) ?_ hc
    split
    · rfl
    · exact (within_answerDeadline _ x f).cursors
  · refine hexp ((expireDeadline_silent ?_).trans (updateCursor_eq _ x _)) (hs.2.congr rfl rfl rfl rfl rfl rfl)
    rcases hm with hm | hm | hm
    · exact .inl ((gapsSilent_iff _).2 (.inl hm))
    · exact .inl ((gapsSilent_iff _).2 (.inr hm))
    · exact .inr hm
  · have hloud : gapsSilent (s.clocked t) = false := by simp [gapsSilent, hm1, hm2]
    have hroom' : RoomFor (s.clocked t) .gap (some x) (some f) := hroom
    have hexpired {a : State} (ha : answerDeadline (s.clocked t) x f = a) :
        expireDeadline (s.clocked t) x f = updateCursor a x Cursor.lapse := by
      rw [expireDeadline_answered hloud, ha]
    have hlate : ((jobOf (s.clocked t) x f).isSome || specHeldRecord (s.clocked t) x f) = true ↔ late := by
      rw [Bool.or_eq_true, specHeldRecord_iff]
      rfl
    have hlapse (a : State) : Within [.cursors] a (updateCursor a x Cursor.lapse) := within_updateCursor a x _
    refine ⟨fun h => ?_, fun h hl => ?_, fun h hl => ?_⟩
    · obtain ⟨r, hrec, hheld, -⟩ := id h
      have hrec' : recordOf (insertNew (s.clocked t) (newEntry (s.clocked t) .gap (some x) (some f) 0 (.gap .unusable))) x f =
          some r := (recordOf_congr rfl _ _).trans hrec
      have ha : answerDeadline (s.clocked t) x f = freeRecord _ x f :=
        (answerDeadline_unusable (s := s.clocked t) hq (unusableHeld_iff.2 h)).trans (congrArg (freeRecord · x f) (queueGap_of_room hroom' _))
      have hwithin := ((hgap .unusable).mono.trans (within_freeRecord _ x f).mono).trans (hlapse _).mono
        (ps := [.time, .queue, .cursors, .store])
      refine ⟨_, ⟨hexp (hexpired ha) (hs.2.within hwithin), cursorOf_lapse (s := s) ?_ hc, ?_⟩, ?_, hwithin⟩
      · exact (within_freeRecord _ x f).cursors
      · rw [freeRecord_held hrec' hheld]
        exact ⟨⟨_, numbered_mem _ _, rfl, rfl, rfl, rfl, rfl⟩, length_insertNew _ _⟩
      · exact (recordOf_congr rfl _ _).trans (recordOf_freeRecord_self _ x f)
    · have hn : unusableHeld (s.clocked t) x f = false := Bool.eq_false_iff.2 fun k => h (unusableHeld_iff.1 k)
      have ha := (answerDeadline_late (s := s.clocked t) hq hn (hlate.2 hl)).trans (queueGap_of_room hroom' _)
      have hwithin := (hgap .late).mono.trans (hlapse _).mono (ps := [.time, .queue, .cursors])
      exact ⟨_, ⟨hexp (hexpired ha) (hs.2.within hwithin), cursorOf_lapse (s := s) rfl hc,
        ⟨_, numbered_mem _ _, rfl, rfl, rfl, rfl, rfl⟩, length_insertNew _ _⟩, hwithin⟩
    · have hn : unusableHeld (s.clocked t) x f = false := Bool.eq_false_iff.2 fun k => h (unusableHeld_iff.1 k)
      have ha := (answerDeadline_notDecoded (s := s.clocked t) hq hn (Bool.eq_false_iff.2 fun k => hl (hlate.1 k))).trans (queueGap_of_room hroom' _)
      have hwithin := (hgap .notDecoded).mono.trans (hlapse _).mono (ps := [.time, .queue, .cursors])
      exact ⟨_, ⟨hexp (hexpired ha) (hs.2.within hwithin), cursorOf_lapse (s := s) rfl hc,
        ⟨_, numbered_mem _ _, rfl, rfl, rfl, rfl, rfl⟩, length_insertNew _ _⟩, hwithin⟩

end Sys2Proof.Machine

/-! PROOFS. O28: a completed PARCEL or GAP resolves its stream-frame. -/

namespace Sys2Proof.Machine

-- one theorem at a time: elaborated side by side, they would hold more threads than the check allows
set_option Elab.async false

/-! ### A stream-frame with nothing left of it -/

/-- An entry that is no PARCEL or GAP of the stream-frame. -/
def Entry.apartFrom (x : StreamId) (f : FrameCount) (e : Entry) : Prop :=
  e.kind = .parcel ∨ e.kind = .gap → ¬(e.stream = some x ∧ e.frame = some f)

/-- No PARCEL or GAP of the stream-frame is queued, and no record of it is held. -/
def Resolved (x : StreamId) (f : FrameCount) (s : State) : Prop :=
  (∀ e ∈ s.lnk.queue, e.apartFrom x f) ∧ ∀ r ∈ s.pst.records, ¬(r.stream = x ∧ r.frame = f)

theorem Resolved.recordOf {x : StreamId} {f : FrameCount} {s : State} (h : Resolved x f s) : recordOf s x f = none :=
  recordOf_of_records_filter fun r hr => by
    rw [← Bool.not_eq_true, Bool.and_eq_true, beq_iff_eq, beq_iff_eq]
    exact h.2 r hr

section

variable {x : StreamId} {f : FrameCount} {s : State} (h : Resolved x f s)
include h

theorem Resolved.sub {b : State} (hq : b.lnk.queue ⊆ s.lnk.queue) (hr : b.pst.records ⊆ s.pst.records) : Resolved x f b :=
  ⟨fun e he => h.1 e (hq he), fun r hr' => h.2 r (hr hr')⟩

theorem Resolved.within {ps : List Part} {b : State} (hw : Within ps s b) (hq : Part.queue ∉ ps := by decide)
    (hr : Part.store ∉ ps := by decide) : Resolved x f b := by
  unfold Resolved
  rw [hw.queue hq, hw.records hr]
  exact h

theorem Resolved.withdraw (p : Entry → Bool) : Resolved x f (Machine.withdraw s p) :=
  h.sub List.filter_sublist.subset fun _ => id

theorem Resolved.freeRecord (y : StreamId) (g : FrameCount) : Resolved x f (Machine.freeRecord s y g) :=
  h.sub (freeRecord_queue_sublist s y g).subset (freeRecord_records_sublist s y g).subset

theorem Resolved.tellStore (e : Entry) : Resolved x f (Machine.tellStore s e) :=
  h.sub (tellStore_queue_sublist s e).subset (tellStore_records_sublist s e).subset

theorem Resolved.rewrite (g : Entry → Entry) (hg : ∀ e, (g e).key = e.key) :
    Resolved x f (setQueue s (s.lnk.queue.map g)) := by
  refine ⟨fun e he => ?_, h.2⟩
  obtain ⟨d, hd, rfl⟩ := List.mem_map.1 he
  have hk := hg d
  simp only [Entry.key, Prod.mk.injEq] at hk
  obtain ⟨h1, h2, h3, -⟩ := hk
  unfold Entry.apartFrom
  rw [h1, h2, h3]
  exact h.1 d hd

theorem Resolved.insertNew {e : Entry} (he : e.apartFrom x f) : Resolved x f (Machine.insertNew s e) :=
  ⟨fun d hd => (mem_placeEntry.1 hd).elim (fun k => k ▸ he) (h.1 d), h.2⟩

theorem Resolved.offerEntry {e : Entry} (he : e.apartFrom x f) : Resolved x f (Machine.offerEntry s e).1 := by
  have hheld : Resolved x f (rewriteHeld s e) := h.rewrite _ fun d => by split <;> rfl
  rcases offerEntry_cases s e with ⟨-, ho⟩ | ⟨-, -, ⟨-, ho⟩ | ⟨-, ho⟩ | ⟨-, -, ho⟩⟩ | ⟨-, -, ⟨-, -, ho⟩ | ⟨-, ho⟩ | ⟨-, last, -, hl⟩⟩
  · rw [ho]; exact h
  · rw [ho]; exact hheld.within (within_countTraceDrop _)
  · rw [ho]; exact hheld
  · rw [ho]; exact h
  · rw [ho]; exact h.within (within_countTraceDrop _)
  · rw [ho]; exact h.insertNew he
  · rcases hl with ⟨-, ho⟩ | ⟨-, ho⟩
    · rw [ho]
      have hq1 : Resolved x f (setQueue s s.lnk.queue.dropLast) := h.sub (List.dropLast_sublist _).subset fun _ => id
      have h1 := hq1.within (within_countQueueDrop _)
      exact (h1.insertNew he).tellStore _
    · rw [ho]; exact h.within (within_countQueueDrop _)

theorem Resolved.testNotice : Resolved x f (Machine.testNotice s) := by
  have ho (isNext : Bool) : Resolved x f (Machine.offerEntry s (noticeEntry s isNext)).1 :=
    h.offerEntry fun k => by simp [noticeEntry, newEntry] at k
  exact keeps_ite (fun _ => keeps_ite (fun _ => (ho _).within (within_noticeSent _ _)) fun _ => ho _) fun _ => h

theorem Resolved.offer {e : Entry} (he : e.apartFrom x f) : Resolved x f (Machine.offer s e).1 := by
  have ho := h.offerEntry he
  unfold Machine.offer
  dsimp only
  split
  · exact ho.testNotice
  · exact ho

end

/-! ### Another frame of the stream (R105, R159 to R162) -/

section

variable {x : StreamId} {f g : FrameCount} {s : State} (h : Resolved x f s) (hg : g ≠ f)
include h hg

theorem Resolved.queueParcel {r : ParcelRecord} (hr : r.frame = g) : Resolved x f (Machine.queueParcel s r) := by
  have he : (parcelEntry s r).apartFrom x f := by
    rintro - ⟨-, hf⟩
    exact hg (hr.symm.trans (Option.some.inj hf))
  have ho := h.offer he
  unfold Machine.queueParcel
  dsimp only
  split
  · refine ⟨ho.1, fun q hq => ?_⟩
    obtain ⟨p, hp, rfl⟩ := List.mem_map.1 hq
    have := ho.2 p hp
    split <;> exact this
  · exact ho.freeRecord _ _

theorem Resolved.queueGap (y : GapReason) : Resolved x f (Machine.queueGap s x g y) :=
  h.offer fun _ ⟨_, hf⟩ => hg (Option.some.inj hf)

theorem Resolved.answerDeadline : Resolved x f (Machine.answerDeadline s x g) :=
  keeps_ite (fun _ => h) fun _ => keeps_ite (fun _ => (h.queueGap hg _).freeRecord _ _) fun _ =>
    keeps_ite (fun _ => h.queueGap hg _) fun _ => h.queueGap hg _

theorem Resolved.expireDeadline : Resolved x f (Machine.expireDeadline s x g) :=
  Resolved.within (keeps_ite (fun _ => h) fun _ => h.answerDeadline hg) (within_updateCursor _ _ _)

theorem Resolved.armDeadline : Resolved x f (Machine.armDeadline s x g) := by
  have hc (d : DeadlineState) : Resolved x f (updateCursor s x (fun c => { c with deadline := d })) :=
    h.within (within_updateCursor _ _ _)
  unfold Machine.armDeadline
  split
  · exact hc _
  · split
    · exact hc _
    · split
      · exact hc _
      · exact h.expireDeadline hg

theorem Resolved.releaseHeld : Resolved x f (Machine.releaseHeld s x g) := by
  unfold Machine.releaseHeld
  split
  · exact h
  · rename_i r hr
    exact keeps_ite (fun _ => h.queueParcel hg (recordOf_key hr).2.2) fun _ => h

omit hg in
theorem Resolved.rewalk : Resolved x f (Machine.rewalk s x g) := by
  unfold Machine.rewalk
  split
  · exact h
  · refine h.rewrite _ fun e => ?_
    split
    · split
      · split <;> rfl
      · rfl
    · rfl

omit hg in
theorem Resolved.withdrawOthers : Resolved x f (Machine.withdrawOthers s x g) := by
  unfold Machine.withdrawOthers
  dsimp only
  exact (h.withdraw _).sub (foldl_sublist (·.lnk.queue) tellStore_queue_sublist _ _).subset
    (foldl_sublist (·.pst.records) tellStore_records_sublist _ _).subset

theorem Resolved.arriveAt : Resolved x f (Machine.arriveAt s x g) :=
  (h.withdrawOthers.rewalk.releaseHeld hg).armDeadline hg

end

/-! ### The cursor (R158) -/

/-- Arming a deadline changes nothing of the cursors but the deadline of the stream's. -/
theorem cursorOf_armDeadline (s : State) (x : StreamId) (f : FrameCount) : ∃ d, ∀ y,
    cursorOf (armDeadline s x f) y = if y = x then (cursorOf s y).map (fun c => { c with deadline := d }) else cursorOf s y := by
  unfold armDeadline
  split
  · exact ⟨_, fun y => cursorOf_updateCursor s x y fun _ => rfl⟩
  · split
    · exact ⟨_, fun y => cursorOf_updateCursor s x y fun _ => rfl⟩
    · split
      · exact ⟨_, fun y => cursorOf_updateCursor s x y fun _ => rfl⟩
      · refine ⟨.lapsed, fun y => ?_⟩
        have ha : (if gapsSilent s = true then s else answerDeadline s x f).dlv.cursors = s.dlv.cursors := by
          split
          · rfl
          · exact (within_answerDeadline s x f).cursors
        unfold expireDeadline
        dsimp only
        rw [cursorOf_updateCursor _ x y (g := fun c => { c with deadline := .lapsed }) fun _ => rfl, cursorOf_congr ha]

/-- A cursor that has been set stands at its frame with its carry-in; other cursors stand as they were. -/
theorem cursorOf_setCursor (s : State) (x : StreamId) (f : FrameCount) (k : Option Nat) : ∃ d, ∀ y,
    cursorOf (setCursor s x f k) y =
      if y = x then (cursorOf s y).map (fun c => { c with cursor := some f, carryIn := k, deadline := d }) else cursorOf s y := by
  let s1 := updateCursor s x (fun c => { c with cursor := some f, carryIn := k, deadline := .none })
  have hw : Within [.store, .queue, .counters, .mapUnit] s1 (releaseHeld (rewalk (withdrawOthers s1 x f) x f) x f) :=
    ((within_withdrawOthers _ _ _).mono.trans (within_rewalk _ _ _).mono).trans (within_releaseHeld _ _ _).mono
  obtain ⟨d, hd⟩ := cursorOf_armDeadline (releaseHeld (rewalk (withdrawOthers s1 x f) x f) x f) x f
  refine ⟨d, fun y => (hd y).trans ?_⟩
  have hs1 := cursorOf_updateCursor s x y
    (g := fun c => { c with cursor := some f, carryIn := k, deadline := .none }) fun _ => rfl
  rw [cursorOf_congr hw.cursors, hs1]
  split
  · rw [Option.map_map]
    rfl
  · rfl

/-! ### Resolution (R131, R158) -/

/-- The state before the cursor moves: the entries withdrawn, the record freed. -/
def cleared (s : State) (x : StreamId) (f : FrameCount) : State :=
  freeRecord (withdraw s (fun e => entryMatches .parcel (some x) (some f) e || entryMatches .gap (some x) (some f) e)) x f

theorem resolve_eq (s : State) (x : StreamId) (f : FrameCount) (k : Option Nat) :
    resolve s x f k = moveCursor (cleared s x f) x f k := rfl

theorem cursors_cleared (s : State) (x : StreamId) (f : FrameCount) : (cleared s x f).dlv.cursors = s.dlv.cursors :=
  (within_freeRecord _ x f).cursors

theorem resolved_cleared (s : State) (x : StreamId) (f : FrameCount) : Resolved x f (cleared s x f) := by
  refine ⟨fun e he hk hx => ?_, fun r hr => ?_⟩
  · have hm := (List.mem_filter.1 ((freeRecord_queue_sublist _ x f).subset he)).2
    rcases hk with hk | hk <;> simp [entryMatches, hk, hx.1, hx.2] at hm
  · rw [cleared, freeRecord_records_eq] at hr
    have hm := (List.mem_filter.1 hr).2
    rintro ⟨hx, hf⟩
    simp [hx, hf] at hm

theorem moveCursor_stands {s : State} {x : StreamId} {f : FrameCount} {k : Option Nat}
    (h : ∀ z, cursorOf s x = some z → ¬(z.cursor = some f ∨ (z.cursor = none ∧ z.absent = false))) : moveCursor s x f k = s := by
  unfold moveCursor
  split
  · rfl
  · exact if_neg (by simpa using h _ ‹_›)

theorem moveCursor_moves {s : State} {x : StreamId} {f : FrameCount} {k : Option Nat} {z : Cursor} (hz : cursorOf s x = some z)
    (h : z.cursor = some f ∨ (z.cursor = none ∧ z.absent = false)) : moveCursor s x f k = setCursor s x (f + 1) k := by
  rw [moveCursor, hz]
  exact if_pos (by simpa using h)

theorem next_ne (f : FrameCount) : f + 1 ≠ f := by bv_omega

/-- All that resolution leaves of the stream-frame and of the cursors. -/
theorem resolve_brings (s : State) (x : StreamId) (f : FrameCount) (k : Option Nat) :
    Resolved x f (resolve s x f k) ∧ (∀ y, y ≠ x → cursorOf (resolve s x f k) y = cursorOf s y) ∧
    (∀ z, cursorOf s x = some z →
      if z.cursor = some f ∨ (z.cursor = none ∧ z.absent = false) then
        cursorFrame (resolve s x f k) x = some (f + 1) ∧ (∀ y, cursorOf (resolve s x f k) x = some y → y.carryIn = k)
      else cursorOf (resolve s x f k) x = some z) ∧
    (cursorOf s x = none → cursorOf (resolve s x f k) x = none) := by
  have hlook (y : StreamId) : cursorOf (cleared s x f) y = cursorOf s y := cursorOf_congr (cursors_cleared s x f) y
  by_cases hm : ∃ z, cursorOf s x = some z ∧ (z.cursor = some f ∨ (z.cursor = none ∧ z.absent = false))
  · obtain ⟨z, hz, hmove⟩ := hm
    have he : resolve s x f k = setCursor (cleared s x f) x (f + 1) k := moveCursor_moves ((hlook x).trans hz) hmove
    obtain ⟨d, hd⟩ := cursorOf_setCursor (cleared s x f) x (f + 1) k
    have hx := hd x
    rw [if_pos rfl, hlook, hz] at hx
    rw [he]
    refine ⟨((resolved_cleared s x f).within (within_updateCursor _ _ _)).arriveAt (next_ne f), fun y hy => ?_, fun w hw => ?_,
      fun hn => by rw [hz] at hn; cases hn⟩
    · rw [hd y, if_neg hy, hlook]
    · cases hz.symm.trans hw
      rw [if_pos hmove, cursorFrame, hx]
      refine ⟨rfl, fun y hy => ?_⟩
      cases hy
      rfl
  · have hstand : ∀ z, cursorOf s x = some z → ¬(z.cursor = some f ∨ (z.cursor = none ∧ z.absent = false)) :=
      fun z hz hk => hm ⟨z, hz, hk⟩
    have he : resolve s x f k = cleared s x f := moveCursor_stands fun z hz => hstand z ((hlook x).symm.trans hz)
    rw [he]
    refine ⟨resolved_cleared s x f, fun y _ => hlook y, fun z hz => ?_, fun hn => (hlook x).trans hn⟩
    rw [if_neg (hstand z hz), hlook, hz]

/-- Settles O28: whatever command brings it, resolution acts on a state with the cursors of the state before. -/
theorem completedCopyResolvesFrame : Obligations.CompletedCopyResolvesFrame := by
  intro s t x f k c hs hc
  have hbase : ∃ b, exec c s = .next (resolve b x f k) ∧ b.dlv.cursors = s.dlv.cursors ∧ Within [.time, .line] s b := by
    have hheard : Within [.time, .line] s (heardState s t) := (within_clocked s t).mono.trans (within_setEndSlot _ _).mono
    have hoff : Within [.time, .line] s (offLine (s.clocked t)) := (within_clocked s t).mono.trans (within_offLine _).mono
    have h0 : Settled (heardState s t) := settled_setEndSlot hs t _
    have h0' : Settled (offLine (s.clocked t)) := hs.2.congr rfl rfl rfl rfl rfl rfl
    have hset := h0.within (within_resolve _ x f k)
    have hset' := h0'.within (within_resolve _ x f k)
    rcases hc with ⟨m, rfl, hm, rfl, rfl, rfl⟩ | ⟨m, rfl, hm, rfl, rfl, rfl⟩ | ⟨a, ha, hk, hx, hf, rfl, hc⟩ |
      ⟨a, ha, hk, hx, hf, rfl, hc⟩
    · exact ⟨_, exec_heard hs hm rfl rfl hset, rfl, hheard⟩
    · exact ⟨_, exec_heard hs hm rfl rfl hset, rfl, hheard⟩
    · have hdone : completeAttempt (s.clocked t) a = resolve (offLine (s.clocked t)) x f a.carryOut := by
        simp [completeAttempt, hk, hx, hf]
      refine ⟨offLine (s.clocked t), ?_, rfl, hoff⟩
      rcases hc with rfl | rfl
      · exact exec_eq hs rfl ((endAttempt_eq (s := s.clocked t) ha false).trans hdone) hset'
      · exact exec_eq hs rfl ((completeOwn_eq (s := s.clocked t) ha hk).trans hdone) hset'
    · have hdone : completeAttempt (s.clocked t) a = resolve (offLine (s.clocked t)) x f none := by
        simp [completeAttempt, hk, hx, hf]
      refine ⟨offLine (s.clocked t), ?_, rfl, hoff⟩
      rcases hc with rfl | rfl
      · exact exec_eq hs rfl ((endAttempt_eq (s := s.clocked t) ha false).trans hdone) hset'
      · exact exec_eq hs rfl ((completeOwn_eq (s := s.clocked t) ha hk).trans hdone) hset'
  obtain ⟨b, hexec, hcur, hwb⟩ := hbase
  obtain ⟨hres, hother, hself, hnone⟩ := resolve_brings b x f k
  refine ⟨_, hexec, hres.1, hres.recordOf, fun y hy => (hother y hy).trans (cursorOf_congr hcur y), fun z hz => ?_,
    fun hn => hnone ((cursorOf_congr hcur x).trans hn), hwb.mono.trans (within_resolve b x f k).mono⟩
  exact hself z ((cursorOf_congr hcur x).trans hz)

end Sys2Proof.Machine

/-! PROOFS. O43, O45, O46, O47: what a peer's STATUS, a MAP notice, a SUBSCRIBE and a RELEASE bring about. -/

namespace Sys2Proof.Machine

-- one theorem at a time: elaborated side by side, they would hold more threads than the check allows
set_option Elab.async false

/-- What a message heard brings about, the claims settled last. -/
theorem exec_hear {c : Instr} {s : State} {t : Instant} {k : MsgKind} {m : LinkMessage} {owner : State → State} (hs : Awake s)
    (h : Heard s k m) (he : exec c s = .next (live t s fun s => hear s k m owner)) :
    exec c s = .next (settleClaims (owner (heardState s t))) := by
  rw [he, live_awake hs.1, hear_heard (s := s.clocked t) (h := h)]
  rfl

theorem within_heardState (s : State) (t : Instant) : Within [.time, .line] s (heardState s t) :=
  (within_clocked s t).mono.trans (within_setEndSlot _ _).mono

theorem settled_heardState {s : State} (h : Awake s) (t : Instant) : Settled (heardState s t) := settled_setEndSlot h t _

/-! ### The classes after a change (R139, R141) -/

theorem ClassesReviewed.stand {ps : List Part} {a b : State} (h : ClassesReviewed a) (hw : Within ps a b) (hm : MapsStand a b)
    (ht : Part.table ∉ ps := by decide) : ClassesReviewed b :=
  h.congr (hw.table ht) (hw.foregroundLoad ht) (.of_entries hm.entries)

theorem reviewed_settleClaims {s : State} (h : ClassesReviewed s) : ClassesReviewed (settleClaims s) :=
  h.stand (within_settleClaims s) (.within (within_settleClaims s))

theorem reviewed_tableChange (s : State) (t : List Subscription) : ClassesReviewed (tableChange s t) := by
  have hw : Within [.store, .queue, .cursors, .claims] (withTable s t) (tableChange s t) :=
    ((within_foldl_addCursor _ _).mono.trans (Within.foldl within_removeCursor _ _).mono).trans (within_claimReview _).mono
  exact (reviewed_classReview _).stand hw (.within hw)

theorem reviewed_settleMaps (s : State) : ClassesReviewed (settleMaps s) := by
  have hc : ClassesReviewed (claimReview (classReview (trimMarks s))) :=
    (reviewed_classReview _).stand (within_claimReview _) (.within (within_claimReview _))
  have hm : ClassesReviewed (mapChanged s) := hc.stand (within_reviewCursors _) (noticed_reviewCursors _).stand
  exact (hm.stand (within_currentReady _) (stand_currentReady _)).stand (within_nextReady _) (stand_nextReady _)

theorem asked_tableChange (s : State) (t : List Subscription) :
    (tableChange s t).sub.table.map (·.asked) = t.map (·.asked) := by
  rw [table_tableChange]
  show ((reviewedTable s.maps.current t).map (·.asked)) = _
  rw [reviewedTable, List.map_map]
  rfl

/-! ### Requests (R137, R138) -/

theorem sameParty_iff {x : StreamId} {c : Byte} {e : Subscription} :
    sameParty x c e = true ↔ e.stream = x ∧ e.consumer = c := by
  simp [sameParty]

section

variable {s : State} {e : Subscription}

/-- A request of a new stream and consumer joins a table with room. -/
theorem applySubscribe_new (hn : ∀ h ∈ s.sub.table, ¬(h.stream = e.stream ∧ h.consumer = e.consumer))
    (hl : s.sub.table.length < 16) : applySubscribe s e = tableChange s (s.sub.table ++ [e]) := by
  have hf : s.sub.table.find? (sameParty e.stream e.consumer) = none :=
    List.find?_eq_none.2 fun h hh hp => hn h hh (sameParty_iff.1 hp)
  unfold applySubscribe
  rw [hf]
  exact if_pos hl

theorem applySubscribe_full (hn : ∀ h ∈ s.sub.table, ¬(h.stream = e.stream ∧ h.consumer = e.consumer))
    (hl : 16 ≤ s.sub.table.length) : applySubscribe s e = s := by
  have hf : s.sub.table.find? (sameParty e.stream e.consumer) = none :=
    List.find?_eq_none.2 fun h hh hp => hn h hh (sameParty_iff.1 hp)
  unfold applySubscribe
  rw [hf]
  exact if_neg (Nat.not_lt.2 hl)

theorem applySubscribe_repeat (hp : ∃ h ∈ s.sub.table, h.stream = e.stream ∧ h.consumer = e.consumer)
    (he : ∀ h ∈ s.sub.table, h.stream = e.stream → h.consumer = e.consumer → h.asked = e.asked) : applySubscribe s e = s := by
  obtain ⟨h, hh, hk⟩ := hp
  cases hf : s.sub.table.find? (sameParty e.stream e.consumer) with
  | none => exact absurd (sameParty_iff.2 hk) (List.find?_eq_none.1 hf h hh)
  | some g =>
    obtain ⟨hs, hc⟩ := sameParty_iff.1 (List.find?_some hf)
    have ha := he g (List.mem_of_find?_eq_some hf) hs hc
    simp only [Subscription.asked, Subscription.mk.injEq] at ha
    obtain ⟨-, -, hr, -, ht, hu⟩ := ha
    unfold applySubscribe
    rw [hf]
    exact if_pos ⟨hr, ht, hu⟩

end

theorem applyRelease_held {s : State} {x : StreamId} {c : Byte} (h : ∃ e ∈ s.sub.table, e.stream = x ∧ e.consumer = c) :
    applyRelease s x c = tableChange s (s.sub.table.filter (fun h => !(h.stream == x && h.consumer == c))) :=
  if_pos (List.any_eq_true.2 (h.imp fun _ ⟨he, hk⟩ => ⟨he, sameParty_iff.2 hk⟩))

theorem applyRelease_not_held {s : State} {x : StreamId} {c : Byte} (h : ∀ e ∈ s.sub.table, ¬(e.stream = x ∧ e.consumer = c)) :
    applyRelease s x c = s :=
  if_neg fun hc => by
    obtain ⟨e, he, hp⟩ := List.any_eq_true.1 hc
    exact h e he (sameParty_iff.1 hp)

theorem names_append_self (t : List Subscription) (e : Subscription) : names (t ++ [e]) e.stream = true := by
  simp [names]

/-- Settles O46: a table with room takes the entry by a table change; the other requests leave the state as it is. -/
theorem subscribeAddsEntry : Obligations.SubscribeAddsEntry := by
  intro s t m hs hm x e
  have hset := settled_heardState hs t
  refine ⟨fun hn hl => ?_, fun hn hl => exec_heard hs hm rfl (applySubscribe_full (s := heardState s t) hn hl) hset,
    fun hp he => exec_heard hs hm rfl (applySubscribe_repeat (s := heardState s t) hp he) hset⟩
  have hu : applySubscribe (heardState s t) e = tableChange (heardState s t) (s.sub.table ++ [e]) :=
    applySubscribe_new (s := heardState s t) hn hl
  have hw := within_tableChange (heardState s t) (s.sub.table ++ [e])
  have hcl := within_settleClaims (tableChange (heardState s t) (s.sub.table ++ [e]))
  have hcur : cursorOf (settleClaims (tableChange (heardState s t) (s.sub.table ++ [e]))) x =
      some ((cursorOf s x).getD (freshCursor (heardState s t) x)) := by
    rw [cursorOf_congr hcl.cursors, cursorOf_tableChange, if_pos (names_append_self s.sub.table e)]
    rfl
  refine ⟨_, (exec_hear hs hm rfl).trans (congrArg _ (congrArg settleClaims hu)), ?_, by rw [hcur]; rfl, fun hc => ?_,
    reviewed_settleClaims (reviewed_tableChange _ _), ((within_heardState s t).mono.trans hw.mono).trans hcl.mono⟩
  · rw [hcl.table, asked_tableChange, List.map_append]
    rfl
  · rw [hcur, hc]
    rfl

/-- Settles O47: an entry held leaves the table by a table change. -/
theorem releaseRemovesEntry : Obligations.ReleaseRemovesEntry := by
  intro s t m hs hm x
  refine ⟨fun hp => ?_, fun hn => exec_heard hs hm rfl (applyRelease_not_held (s := heardState s t) hn) (settled_heardState hs t)⟩
  let left := s.sub.table.filter (fun h => !(h.stream == x && h.consumer == m.header.source))
  have hu : applyRelease (heardState s t) x m.header.source = tableChange (heardState s t) left :=
    applyRelease_held (s := heardState s t) hp
  have hw := within_tableChange (heardState s t) left
  have hcl := within_settleClaims (tableChange (heardState s t) left)
  refine ⟨_, (exec_hear hs hm rfl).trans (congrArg _ (congrArg settleClaims hu)), ?_, fun hlast hc => ?_,
    reviewed_settleClaims (reviewed_tableChange _ _), ((within_heardState s t).mono.trans hw.mono).trans hcl.mono⟩
  · rw [hcl.table, asked_tableChange]
  · have hgone : names left x = false := by
      rw [← Bool.not_eq_true, names, List.any_eq_true]
      rintro ⟨e, he, hx⟩
      obtain ⟨hin, hk⟩ := List.mem_filter.1 he
      have hc' := hlast e hin (beq_iff_eq.1 hx)
      simp [hc', beq_iff_eq.1 hx] at hk
    refine ⟨?_, fun r hr hx => ?_, fun e he hk hx => ?_⟩
    · rw [cursorOf_congr hcl.cursors, cursorOf_tableChange, hgone]
      rfl
    · rw [hcl.records] at hr
      have := (mem_tableChange_records hr).2 (by rw [hx]; exact hc)
      rw [hx, hgone] at this
      cases this
    · rw [hcl.queue] at he
      have := (mem_tableChange_queue he).2 x hk hx hc
      rw [hgone] at this
      cases this

/-! ### MAP notices (R42, R43) -/

theorem mem_putEntry {e y : MapEntry} {l : List MapEntry} (h : ∀ x ∈ l, x.id ≠ e.id) : y ∈ putEntry e l ↔ y = e ∨ y ∈ l := by
  induction l with
  | nil => simp [putEntry]
  | cons x xs ih =>
    obtain ⟨hx, hxs⟩ := List.forall_mem_cons.1 h
    unfold putEntry
    rw [if_neg (Ne.symm hx)]
    split
    · simp
    · simp [ih hxs, or_left_comm]

theorem pairwise_of_entriesApart {l : List MapEntry} (h : entriesApart l = true) : l.Pairwise (fun a b => a.id ≠ b.id) := by
  induction l with
  | nil => exact .nil
  | cons x xs ih =>
    simp only [entriesApart, Bool.and_eq_true, List.all_eq_true] at h
    refine .cons (fun y hy => ?_) (ih h.2)
    have hne := (h.1 y hy).1
    rw [bne_iff_ne] at hne
    exact hne.symm

theorem mem_foldl_putEntry {l es : List MapEntry} (hl : l.Pairwise (fun a b => a.id ≠ b.id))
    (hd : ∀ e ∈ l, ∀ x ∈ es, x.id ≠ e.id) (y : MapEntry) :
    y ∈ l.foldl (fun es e => putEntry e es) es ↔ y ∈ l ∨ y ∈ es := by
  induction l generalizing es with
  | nil => simp
  | cons a l ih =>
    obtain ⟨ha, hl⟩ := List.pairwise_cons.1 hl
    have hin (y : MapEntry) := mem_putEntry (y := y) (hd a List.mem_cons_self)
    rw [List.foldl_cons, ih hl, hin, List.mem_cons]
    · tauto
    · intro e he x hx
      rcases (hin x).1 hx with rfl | hx
      · exact ha e he
      · exact hd e (List.mem_cons_of_mem _ he) x hx

/-- The entries that a notice carries, none of them own-marked. -/
def carried (n : MapNotice) : List MapEntry := n.entries.map (fun r => entryOfRaw r false)

/-- A sound notice with entries adopted where no map was held: ADOPTED from a PEER, with what the notice carries. -/
theorem adoptedMap_none {held : MuxMap} {n : MapNotice} (c : FrameCount) (h : held.state = .none) (hn : noticeSound n = true)
    (he : n.entries ≠ []) :
    (adoptedMap held n c).state = .adopted ∧ (adoptedMap held n c).source = .peer ∧ (adoptedMap held n c).count = n.count ∧
      (adoptedMap held n c).entryCount = n.entryCount ∧ ∀ e, e ∈ (adoptedMap held n c).entries ↔ e ∈ carried n := by
  let l := (carried n).foldl (fun es e => putEntry e es) []
  have heq : adoptedMap held n c = ownConfirmed { state := .adopted, count := n.count, entryCount := n.entryCount, source := .peer, entries := l, changeFrame := c, deferred := held.deferred } := by
    simp only [adoptedMap, h, l, carried, List.foldl_map]
    rfl
  have hpair : (carried n).Pairwise (fun a b => a.id ≠ b.id) := by
    simp only [noticeSound, Bool.and_eq_true] at hn
    exact pairwise_of_entriesApart hn.1.2
  have hmem (e : MapEntry) : e ∈ l ↔ e ∈ carried n := by
    rw [mem_foldl_putEntry hpair (fun _ _ x hx => by cases hx)]
    simp
  have hown : l.all (·.own) = false := by
    obtain ⟨r, hr⟩ := List.exists_mem_of_ne_nil _ he
    rw [← Bool.not_eq_true, List.all_eq_true]
    intro hall
    have := hall _ ((hmem _).2 (List.mem_map_of_mem hr))
    cases this
  rw [heq, ownConfirmed, hown]
  exact ⟨rfl, rfl, rfl, rfl, hmem⟩

theorem hearNotice_unsound {s : State} {n : MapNotice} (h : noticeSound n = false) : hearNotice s n = countControlError s := by
  simp [hearNotice, h]

/-- A sound current map's notice taken over NONE maps outside DRAINING is adopted, and the maps settle. -/
theorem hearNotice_adopts {s : State} {n : MapNotice} (h : noticeSound n = true) (hn : n.isNext = false)
    (hm : s.mod.mode ≠ .draining) (hcur : s.maps.current.state = .none) (hnext : s.maps.next.state = .none) :
    hearNotice s n = settleMaps (setCurrent s (adoptedMap s.maps.current n s.maps.current.changeFrame)) := by
  simp [hearNotice, h, hn, hm, hnext, adoptCurrent, adoptable, hcur]

/-- Settles O45: the adopted map stands through all that follows a change of the maps. -/
theorem mapNoticeAdopted : Obligations.MapNoticeAdopted := by
  intro s t m hs hm
  refine ⟨fun hn => ?_, fun hn hi he hmode hcur hnext => ?_⟩
  · refine exec_heard hs hm rfl (hearNotice_unsound hn) ((settled_heardState hs t).within (within_countControlError _)) |>.trans ?_
    rw [countControlError_eq]
    rfl
  let s1 := setCurrent (heardState s t) (adoptedMap s.maps.current (noticeOf m) s.maps.current.changeFrame)
  have hu : hearNotice (heardState s t) (noticeOf m) = settleMaps s1 :=
    hearNotice_adopts (s := heardState s t) hn hi hmode hcur hnext
  have hcl := within_settleClaims (settleMaps s1)
  have hst : MapsStand s1 (settleClaims (settleMaps s1)) := (stand_settleMaps s1).trans (.within hcl)
  obtain ⟨h1, h2, h3, h4, h5⟩ := adoptedMap_none s.maps.current.changeFrame hcur hn he
  refine ⟨_, (exec_hear hs hm rfl).trans (congrArg _ (congrArg settleClaims hu)), hst.state.trans h1, hst.source.trans h2,
    hst.count.trans h3, hst.entryCount.trans h4, fun e => ?_, reviewed_settleClaims (reviewed_settleMaps s1),
    (((within_heardState s t).mono.trans (within_setCurrent _ _).mono).trans (within_settleMaps s1).mono).trans hcl.mono⟩
  rw [hst.entries]
  refine (h5 e).trans ?_
  rw [carried, List.mem_map]
  exact exists_congr fun r => and_congr_right fun _ => eq_comm

/-! ### A peer's STATUS (R145, R150) -/

theorem get_set_table {n : Nat} {α : Type} (v : Table n α) (i j : Fin n) (a : α) :
    (v.set i a).get j = if j = i then a else v.get j := by
  by_cases h : j = i
  · subst h
    simp [Vector.get_eq_getElem]
  · rw [if_neg h]
    simp [Vector.get_eq_getElem, Vector.getElem_set_ne _ _ (fun hv => h (Fin.ext hv).symm)]

theorem get_mem_list {n : Nat} {α : Type} (v : Table n α) (i : Fin n) : v.get i ∈ v.list := by
  rw [Vector.get_eq_getElem, Table.list, Array.mem_toList_iff, Vector.mem_toArray_iff]
  exact Vector.getElem_mem _

theorem getElem?_groups {k n : Nat} {bs : List Byte} {i : Nat} (h : i < n) :
    (groups k n bs)[i]? = some ((bs.drop (k * i)).take k) := by
  induction n generalizing bs i with
  | zero => omega
  | succ n ih =>
    rw [groups]
    cases i with
    | zero => simp
    | succ i =>
      rw [List.getElem?_cons_succ, ih (by omega), List.drop_drop, Nat.mul_succ, Nat.add_comm]

theorem length_groups (k n : Nat) (bs : List Byte) : (groups k n bs).length = n := by
  induction n generalizing bs with
  | zero => rfl
  | succ n ih => rw [groups, List.length_cons, ih]

/-- No claim is listed by the present peer `p`. -/
def Yielded (p : Station) (s : State) : Prop :=
  (s.sub.peers.get p).isPresent = true ∧ ∀ x ∈ s.sub.claims, x ∉ (s.sub.peers.get p).claims

section

variable {p : Station} {s : State}

theorem Yielded.within {ps : List Part} {b : State} (h : Yielded p s) (hw : Within ps s b)
    (hp : Part.peers ∉ ps := by decide) (hc : Part.claims ∉ ps := by decide) : Yielded p b := by
  unfold Yielded
  rw [hw.peers hp, hw.claims hc]
  exact h

/-- A claim review takes no stream that a present peer claims. -/
theorem not_claimed_of_candidate {x : StreamId} (hp : (s.sub.peers.get p).isPresent = true) (hx : x ∈ claimCandidates s) :
    x ∉ (s.sub.peers.get p).claims := by
  intro hc
  have hpc := (mem_claimCandidates.1 hx).2.2
  rw [peerClaims, ← Bool.not_eq_true, List.any_eq_true] at hpc
  refine hpc ⟨_, get_mem_list _ p, ?_⟩
  rw [Bool.and_eq_true]
  exact ⟨hp, by simpa using hc⟩

theorem Yielded.claimReview (h : Yielded p s) : Yielded p (claimReview s) := by
  refine keeps_ite (fun _ => ⟨h.1, fun x hx => ?_⟩) fun _ => h
  rcases mem_takeClaims (s := s) (xs := claimCandidates s) hx with hk | hc
  · exact h.2 x (List.mem_of_mem_filter ((keptClaims_sublist s).subset hk))
  · exact not_claimed_of_candidate (s := s) h.1 hc

theorem yielded_tieBreak (hp : (s.sub.peers.get p).isPresent = true) (hl : p.val < s.mod.straps.station.val) :
    Yielded p (tieBreak s p) := by
  unfold tieBreak
  dsimp only
  split
  · refine Yielded.claimReview ⟨hp, fun x hx => ?_⟩
    simpa using (List.mem_filter.1 hx).2
  · rename_i h
    have hmine := not_not.1 fun k => h ⟨hl, k⟩
    refine ⟨hp, fun x hx => ?_⟩
    rw [← hmine] at hx
    simpa using (List.mem_filter.1 hx).2

theorem Yielded.settleMaps (h : Yielded p s) : Yielded p (settleMaps s) := by
  have hr : Yielded p (Machine.claimReview (classReview (trimMarks s))) :=
    ((h.within (within_trimMarks s)).within (within_classReview _)).claimReview
  exact ((hr.within (within_reviewCursors _)).within (within_currentReady _)).within (within_nextReady _)

theorem Yielded.confirm (h : Yielded p s) : Yielded p (confirm s) :=
  (((h.within (within_setMaps s _)).within (within_confirmJobs _)).within (within_confirmRecords _)).settleMaps

theorem Yielded.backOut (h : Yielded p s) (how : Settlement) : Yielded p (backOut s how) := by
  unfold Machine.backOut
  split
  · exact (((h.within (within_undoSpeculation s _)).within (within_setMaps _ _)).within (within_recreateFrom _ _)).settleMaps
  · exact (h.within (within_setNext s _)).settleMaps

theorem Yielded.weighStatus (h : Yielded p s) (q : Peer) : Yielded p (weighStatus s q) :=
  keeps_ite (fun _ => keeps_ite (fun _ => h.confirm) fun _ =>
    keeps_ite (fun _ => keeps_ite (fun _ => h.backOut _) fun _ => h.backOut _) fun _ => h) fun _ => h

theorem Yielded.settleClaims (h : Yielded p s) : Yielded p (settleClaims s) :=
  keeps_ite (fun _ => h) fun _ => ⟨h.1, fun _ hx => by cases hx⟩

end

/-- Before the tie-break: the peer's position is its report, and the other positions stand. -/
theorem peers_hearStatus (s : State) (m : LinkMessage) :
    (hearStatus s m).sub.peers =
      s.sub.peers.set (Fin.ofNat 8 m.header.source.toNat) (peerOfStatus m (s.now + joinTime)) := by
  unfold hearStatus
  dsimp only
  rw [(within_raiseMarks _ _).peers, (within_weighStatus _ _).peers, (within_tieBreak _ _).peers]
  split
  · rw [(within_adoptSubscriptions _ _).peers]
    rfl
  · rfl

theorem yielded_hearStatus {s : State} {m : LinkMessage}
    (hl : (Fin.ofNat 8 m.header.source.toNat : Station).val < s.mod.straps.station.val) :
    Yielded (Fin.ofNat 8 m.header.source.toNat) (hearStatus s m) := by
  unfold hearStatus
  dsimp only
  have hget (s : State) (p : Station) (q : Peer) : (setPeer s p q).sub.peers.get p = q :=
    (get_set_table s.sub.peers p p q).trans (if_pos rfl)
  refine ((yielded_tieBreak ?_ ?_).weighStatus _).within (within_raiseMarks _ _)
  · split
    · rw [(within_adoptSubscriptions _ _).peers, hget]
      rfl
    · rw [hget]
      rfl
  · split
    · rw [(within_adoptSubscriptions _ _).straps]
      exact hl
    · exact hl

/-- Settles O43: the peer table is written once, before adoption, tie-break and map unit, which leave it alone. -/
theorem statusUpdatesPeer : Obligations.StatusUpdatesPeer := by
  intro s t m hs hm p
  have hcl := within_settleClaims (hearStatus (heardState s t) m)
  have hpeers : (settleClaims (hearStatus (heardState s t) m)).sub.peers =
      s.sub.peers.set p (peerOfStatus m (max s.now t + 216000000)) := hcl.peers.trans (peers_hearStatus _ _)
  have hget : (settleClaims (hearStatus (heardState s t) m)).sub.peers.get p =
      peerOfStatus m (max s.now t + 216000000) := by
    rw [hpeers, get_set_table, if_pos rfl]
  have hexec : exec (.status t (.heard m)) s = .next (settleClaims (hearStatus (heardState s t) m)) :=
    exec_hear (owner := fun s => hearStatus s m) hs hm rfl
  have hw := ((within_heardState s t).mono.trans (within_hearStatus _ m).mono).trans (hcl.mono :
    Within [.time, .line, .peers, .scheduler, .mapUnit, .store, .queue, .counters, .cursors, .table, .claims] _ _)
  refine ⟨_, hexec, ?_⟩
  rw [hget]
  refine ⟨rfl, rfl, rfl, rfl, rfl, rfl, rfl, rfl, rfl, rfl, rfl, rfl, rfl, ?_, fun n hn => ?_, fun q hq => ?_, fun hl => ?_, hw⟩
  · rw [peerOfStatus, List.length_map, length_groups]
    rfl
  · rw [peerOfStatus, List.getElem?_map, getElem?_groups (k := 5) (n := field8 m 39) hn, List.drop_drop]
    rfl
  · rw [hpeers, get_set_table, if_neg hq]
  · have hy := (yielded_hearStatus (s := heardState s t) (m := m) hl).settleClaims
    rw [← hget]
    exact hy.2

end Sys2Proof.Machine

/-! PROOFS. The job scheduler: what an issue round leaves of jobs, contexts and engines, and which jobs a creation makes. -/

namespace Sys2Proof.Machine

-- one theorem at a time: elaborated side by side, they would hold more threads than the check allows
set_option Elab.async false

/-! ### Jobs through an issue round (R61, R65, R69) -/

/-- A job but for what an issue round gives it. -/
def Job.plan (j : Job) : Job := { j with state := .waiting, engine := 0, source := .cold, started := 0 }

/-- What an issue round begun at `a` may make of the job `j`. -/
structure Given (a : State) (j k : Job) : Prop where
  plan : k.plan = j.plan
  kept : underWay j = true → k = j
  begun : underWay k = true → underWay j = false →
    k.state = .running ∧ k.started = a.now ∧ ((contextOf a j.stream).warm = false → k.source = .cold)

theorem Given.stream {a : State} {j k : Job} (h : Given a j k) : k.stream = j.stream := (congrArg Job.stream h.plan :)
theorem Given.frame {a : State} {j k : Job} (h : Given a j k) : k.frame = j.frame := (congrArg Job.frame h.plan :)

theorem Given.refl (a : State) (j : Job) : Given a j j :=
  ⟨rfl, fun _ => rfl, fun h k => by rw [h] at k; cases k⟩

/-- What an issue round may make of a context: it turns COLD or stands, and a PENDING request may be HELD. -/
structure Moved (c d : Context) : Prop where
  next : d.next = c.next
  metrics : d.metrics = c.metrics
  cold : c.warm = false → d.warm = false
  checkpoint : d.checkpoint = c.checkpoint ∨
    (c.checkpoint = .pending ∧ ∃ k, d.checkpoint = .held k ∧ (c.warm = false → k.warm = false))

theorem Moved.refl (c : Context) : Moved c c := ⟨rfl, rfl, id, .inl rfl⟩

theorem Moved.trans {c d e : Context} (h : Moved c d) (k : Moved d e) : Moved c e where
  next := k.next.trans h.next
  metrics := k.metrics.trans h.metrics
  cold hc := k.cold (h.cold hc)
  checkpoint := by
    rcases k.checkpoint with hk | ⟨hp, x, hx, hw⟩
    · rw [hk]; exact h.checkpoint
    · rcases h.checkpoint with hh | ⟨-, x', hx', -⟩
      · exact .inr ⟨hh ▸ hp, x, hx, fun hc => hw (h.cold hc)⟩
      · rw [hx'] at hp; cases hp

/-- No job of the stream is under way. -/
def noneUnderWay (s : State) (x : StreamId) : Prop := ∀ j ∈ s.jsc.jobs, j.stream = x → underWay j = false

/-- What issue rounds do. -/
structure Issued (a b : State) : Prop where
  scope : Within [.scheduler] a b
  jobs : ∃ g : Job → Job, b.jsc.jobs = a.jsc.jobs.map g ∧ ∀ j ∈ a.jsc.jobs, Given a j (g j)
  contexts : ∀ x, Moved (contextOf a x) (contextOf b x)
  located : ∀ x, noneUnderWay b x → (contextOf a x).location = .table → contextOf b x = contextOf a x
  unheld : ∀ x e, noneUnderWay b x → (engineOf a e).held ≠ some x → (engineOf b e).held ≠ some x

theorem Issued.refl (a : State) : Issued a a :=
  ⟨.refl _ a, ⟨id, (List.map_id _).symm, fun j _ => .refl a j⟩, fun _ => .refl _, fun _ _ _ => rfl, fun _ _ _ h => h⟩

theorem Issued.none_before {a b : State} (h : Issued a b) {x : StreamId} (hb : noneUnderWay b x) : noneUnderWay a x := by
  obtain ⟨g, hg, hgiven⟩ := h.jobs
  intro j hj hx
  rw [← Bool.not_eq_true]
  intro hu
  have hk := (hgiven j hj).kept hu
  have := hb (g j) (by rw [hg]; exact List.mem_map_of_mem hj) (by rw [hk]; exact hx)
  rw [hk, hu] at this
  cases this

theorem Given.trans {a b : State} {j k l : Job} (hn : b.now = a.now) (hc : (contextOf a j.stream).warm = false → (contextOf b j.stream).warm = false)
    (h : Given a j k) (i : Given b k l) : Given a j l where
  plan := i.plan.trans h.plan
  kept hj := by
    have hk := h.kept hj
    rw [i.kept (hk ▸ hj), hk]
  begun hl hj := by
    cases hk : underWay k with
    | true => rw [i.kept hk]; exact h.begun hk hj
    | false =>
      obtain ⟨h1, h2, h3⟩ := i.begun hl hk
      exact ⟨h1, h2.trans hn, fun hw => h3 (by rw [h.stream]; exact hc hw)⟩

theorem Issued.trans {a b c : State} (h : Issued a b) (k : Issued b c) : Issued a c where
  scope := h.scope.trans k.scope
  jobs := by
    obtain ⟨g, hg, hgiven⟩ := h.jobs
    obtain ⟨f, hf, hfgiven⟩ := k.jobs
    refine ⟨f ∘ g, by rw [hf, hg, List.map_map], fun j hj => (hgiven j hj).trans h.scope.now (h.contexts j.stream).cold ?_⟩
    exact hfgiven (g j) (by rw [hg]; exact List.mem_map_of_mem hj)
  contexts x := (h.contexts x).trans (k.contexts x)
  located x hc hl := by
    have h1 := h.located x (k.none_before hc) hl
    exact (k.located x hc (by rw [h1]; exact hl)).trans h1
  unheld x e hc hh := k.unheld x e hc (h.unheld x e (k.none_before hc) hh)

/-- The plans of the jobs stand. -/
theorem Issued.plans {a b : State} (h : Issued a b) : b.jsc.jobs.map Job.plan = a.jsc.jobs.map Job.plan := by
  obtain ⟨g, hg, hgiven⟩ := h.jobs
  rw [hg, List.map_map]
  exact List.map_congr_left fun j hj => (hgiven j hj).plan

/-- What the moves of engines do: the jobs and who runs them stand. -/
structure Moves (a b : State) : Prop where
  scope : Within [.scheduler] a b
  jobs : b.jsc.jobs = a.jsc.jobs
  work : ∀ e, (engineOf b e).job = (engineOf a e).job
  contexts : ∀ x, Moved (contextOf a x) (contextOf b x)
  located : ∀ x, noneUnderWay a x → (contextOf a x).location = .table → contextOf b x = contextOf a x
  unheld : ∀ x e, noneUnderWay a x → (engineOf a e).held ≠ some x → (engineOf b e).held ≠ some x

theorem Moves.refl (a : State) : Moves a a :=
  ⟨.refl _ a, rfl, fun _ => rfl, fun _ => .refl _, fun _ _ _ => rfl, fun _ _ _ h => h⟩

theorem Moves.noneUnderWay {a b : State} (h : Moves a b) {x : StreamId} (ha : Machine.noneUnderWay a x) :
    Machine.noneUnderWay b x := by
  unfold Machine.noneUnderWay
  rw [h.jobs]
  exact ha

theorem Moves.trans {a b c : State} (h : Moves a b) (k : Moves b c) : Moves a c where
  scope := h.scope.trans k.scope
  jobs := k.jobs.trans h.jobs
  work e := (k.work e).trans (h.work e)
  contexts x := (h.contexts x).trans (k.contexts x)
  located x hn hl := by
    have h1 := h.located x hn hl
    exact (k.located x (h.noneUnderWay hn) (by rw [h1]; exact hl)).trans h1
  unheld x e hn hh := k.unheld x e (h.noneUnderWay hn) (h.unheld x e hn hh)

theorem Moves.foldl {α : Type} {f : State → α → State} (h : ∀ s x, Moves s (f s x)) (l : List α) (s : State) :
    Moves s (l.foldl f s) := by
  induction l generalizing s with
  | nil => exact .refl s
  | cons x xs ih => exact (h s x).trans (ih _)

theorem Moves.issued {a b : State} (h : Moves a b) : Issued a b where
  scope := h.scope
  jobs := ⟨id, by rw [h.jobs, List.map_id], fun j _ => .refl a j⟩
  contexts := h.contexts
  located x hb := h.located x (by unfold Machine.noneUnderWay at *; rw [← h.jobs]; exact hb)
  unheld x e hb := h.unheld x e (by unfold Machine.noneUnderWay at *; rw [← h.jobs]; exact hb)

theorem contextOf_setContext (s : State) (x y : StreamId) (c : Context) :
    contextOf (setContext s x c) y = if y = x then c else contextOf s y := get_set_table s.jsc.contexts x y c

/-- A job of the stream is under way. -/
def someUnderWay (s : State) (x : StreamId) : Prop := ∃ j ∈ s.jsc.jobs, j.stream = x ∧ underWay j = true

theorem Moves.someUnderWay {a b : State} {x : StreamId} (hm : Moves a b) (h : Machine.someUnderWay a x) :
    Machine.someUnderWay b x := by
  unfold Machine.someUnderWay
  rw [hm.jobs]
  exact h

theorem Issued.someUnderWay {a b : State} {x : StreamId} (hi : Issued a b) (h : Machine.someUnderWay a x) :
    Machine.someUnderWay b x := by
  obtain ⟨j, hj, hx, hu⟩ := h
  obtain ⟨g, hg, hgiven⟩ := hi.jobs
  refine ⟨j, ?_, hx, hu⟩
  rw [hg, ← (hgiven j hj).kept hu]
  exact List.mem_map_of_mem hj

theorem someUnderWay.absurd {s : State} {x : StreamId} {p : Prop} (h : someUnderWay s x) (hn : noneUnderWay s x) : p := by
  obtain ⟨j, hj, hx, hu⟩ := h
  rw [hn j hj hx] at hu
  cases hu

/-- An engine that gets hold of no context but one it held, or one that a job under way is of. -/
theorem moves_setEngine {s : State} {e : EngineId} {n : Engine} (hj : n.job = (engineOf s e).job)
    (h : ∀ x, n.held = some x → (engineOf s e).held = some x ∨ someUnderWay s x) : Moves s (setEngine s e n) := by
  refine ⟨within_setEngine s e n, rfl, fun d => ?_, fun _ => .refl _, fun _ _ _ => rfl, fun x d hn hu hd => ?_⟩
  · rw [engineOf_setEngine]
    split
    · subst d; exact hj
    · rfl
  · rw [engineOf_setEngine] at hd
    split at hd
    · subst d
      exact (h x hd).elim hu fun hs => hs.absurd hn
    · exact hu hd

theorem moves_keepHeld (s : State) (e : EngineId) (n : Engine) (hj : n.job = (engineOf s e).job)
    (h : n.held = (engineOf s e).held) : Moves s (setEngine s e n) := moves_setEngine hj fun _ hx => .inl (h ▸ hx)

theorem moves_hold (s : State) (e : EngineId) {x : StreamId} (h : someUnderWay s x) :
    Moves s (setEngine s e { engineOf s e with held := some x, dirty := false }) :=
  moves_setEngine rfl fun y hy => .inr (by cases hy; exact h)

theorem moves_giveUp (s : State) (e : EngineId) : Moves s (setEngine s e { engineOf s e with held := none, dirty := false }) :=
  moves_setEngine rfl fun _ hy => by cases hy

/-- A context that is changed as a round may change it: a job of its stream is under way, or an engine has it. -/
theorem moves_setContext {s : State} {x : StreamId} {c : Context} (hm : Moved (contextOf s x) c)
    (h : someUnderWay s x ∨ (contextOf s x).location ≠ .table) : Moves s (setContext s x c) := by
  refine ⟨within_setContext s x c, rfl, fun _ => rfl, fun y => ?_, fun y hn hu => ?_, fun _ _ _ hh => hh⟩
  · rw [contextOf_setContext]
    split
    · subst y; exact hm
    · exact .refl _
  · rw [contextOf_setContext, if_neg]
    rintro rfl
    exact h.elim (fun hs => hs.absurd hn) fun hl => hl hu

theorem moves_goCold (s : State) (l : Location) {x : StreamId} (h : someUnderWay s x) :
    Moves s (setContext s x { contextOf s x with warm := false, location := l }) :=
  moves_setContext ⟨rfl, rfl, fun _ => rfl, .inl rfl⟩ (.inl h)

/-! ### Moves (R68, R70) -/

theorem moves_dropHolders (s : State) (x : StreamId) (k : Option EngineId) : Moves s (dropHolders s x k) :=
  .foldl (fun s e => keeps_ite (fun _ => moves_giveUp s e) fun _ => .refl s) _ s

section

variable {s : State} {e : EngineId} {j : Job} (h : someUnderWay s j.stream)
include h

theorem moves_takeCheckpoint : Moves s (takeCheckpoint s j) := by
  unfold takeCheckpoint
  dsimp only
  split
  · rename_i hc
    exact moves_setContext ⟨rfl, rfl, id, .inr ⟨hc.2, _, rfl, id⟩⟩ (.inl h)
  · exact .refl s

theorem moves_beginDecoding : Moves s (beginDecoding s e j) :=
  (moves_takeCheckpoint h).trans (moves_keepHeld _ _ _ rfl rfl)

theorem moves_takeContext : Moves s (takeContext s e j) := by
  unfold takeContext
  dsimp only
  split
  · exact moves_beginDecoding h
  · have h1 := moves_dropHolders s j.stream (some e)
    have h2 := moves_goCold (dropHolders s j.stream (some e)) (.engine e) (h1.someUnderWay h)
    have h3 := moves_hold _ e (h2.someUnderWay (h1.someUnderWay h))
    exact keeps_ite (fun _ => moves_beginDecoding h) fun _ =>
      ((h1.trans h2).trans h3).trans (moves_beginDecoding (((h1.trans h2).trans h3).someUnderWay h))
  · split
    · rename_i g _
      exact (moves_keepHeld s g { engineOf s g with phase := .sending e } rfl rfl).trans (moves_keepHeld _ _ _ rfl rfl)
    · exact moves_keepHeld _ _ _ rfl rfl
  · split
    · exact keeps_ite (fun _ => moves_keepHeld _ _ _ rfl rfl) fun _ => moves_keepHeld _ _ _ rfl rfl
    · exact moves_keepHeld _ _ _ rfl rfl

end

theorem moves_dropHeld (s : State) (e : EngineId) (x : StreamId) : Moves s (dropHeld s e x) := by
  refine keeps_ite (fun hl => ?_) fun _ => moves_giveUp s e
  have hl' : (contextOf s x).location = .engine e := hl
  have h1 : Moves s (setContext s x { contextOf s x with location := .table }) :=
    moves_setContext ⟨rfl, rfl, id, .inl rfl⟩ (.inr (by rw [hl']; simp))
  exact h1.trans (moves_giveUp (setContext s x _) e)

theorem moves_beginMoves {round : List EngineId} {s : State} {e : EngineId}
    (h : ∀ j, engineJob s e = some j → someUnderWay s j.stream) : Moves s (beginMoves round s e) := by
  unfold beginMoves
  split
  · exact .refl s
  · rename_i j hj
    have hu := h j hj
    split
    · exact moves_takeContext hu
    · rename_i x _
      refine keeps_ite (fun _ => moves_takeContext hu) fun _ => ?_
      split
      · exact moves_keepHeld _ _ _ rfl rfl
      · exact keeps_ite (fun _ => moves_keepHeld _ _ _ rfl rfl) fun _ =>
          (moves_dropHeld s e x).trans (moves_takeContext ((moves_dropHeld s e x).someUnderWay hu))

/-! ### The issue round (R61, R65) -/

theorem issued_retest (s : State) : Issued s (retest s) := by
  refine ⟨within_retest s, ⟨_, rfl, fun j _ => ?_⟩, fun _ => .refl _, fun _ _ _ => rfl, fun _ _ _ h => h⟩
  split
  · exact .refl s j
  · rename_i hj
    exact ⟨rfl, fun hu => absurd hu hj, fun hu => by rw [underWay_readiness] at hu; cases hu⟩

/-- Engine `e` is given the job `j`. -/
def given (s : State) (round : List EngineId) (j : Job) (e : EngineId) : State :=
  let s1 := updateJob s j.stream j.frame
    (fun k => { k with state := .running, engine := e, source := contextSource s round j e, started := s.now })
  setEngine s1 e { engineOf s1 e with job := some (j.stream, j.frame), dropAtEnd := false }

theorem assign_none_ready {n : Nat} {s : State} {round : List EngineId} (h : readyJobs s = []) :
    assign n s round = (s, round) := by
  cases n with
  | zero => rfl
  | succ n => rw [assign, h]; rfl

theorem assign_succ {n : Nat} {s : State} {round : List EngineId} {j : Job} (h : (readyJobs s).head? = some j) :
    assign (n + 1) s round = match chooseEngine s j.stream with
      | none => (s, round)
      | some e => assign n (given s round j e) (round ++ [e]) := by
  rw [assign, h]
  rfl

theorem contextSource_cold {s : State} {round : List EngineId} {j : Job} {e : EngineId}
    (h : (contextOf s j.stream).warm = false) : contextSource s round j e = .cold := if_pos (.inl h)

theorem issued_given {s : State} {round : List EngineId} {j : Job} {e : EngineId} (h : j ∈ readyJobs s) :
    Issued s (given s round j e) := by
  obtain ⟨-, -, hnone⟩ := of_mem_readyJobs h
  have hw : Within [.scheduler] s (given s round j e) := (within_updateJob s _ _ _).trans (within_setEngine _ _ _)
  refine ⟨hw, ⟨_, rfl, fun k hk => ?_⟩, fun _ => .refl _, fun _ _ _ => rfl, fun x d _ hu => ?_⟩
  · dsimp only
    split
    · rename_i hkey
      rw [Bool.and_eq_true, beq_iff_eq, beq_iff_eq] at hkey
      refine ⟨rfl, fun hu => ?_, fun _ _ => ⟨rfl, rfl, fun hc => contextSource_cold (hkey.1 ▸ hc)⟩⟩
      rw [hnone k hk hkey.1] at hu
      cases hu
    · exact .refl s k
  · show (engineOf (setEngine _ e _) d).held ≠ some x
    rw [engineOf_setEngine]
    split
    · subst d
      exact hu
    · exact hu

/-- Every engine of the round is BUSY with a stream of which a job is under way. -/
def RoundRuns (s : State) (round : List EngineId) : Prop :=
  ∀ e ∈ round, ∀ x f, (engineOf s e).job = some (x, f) → someUnderWay s x

theorem RoundRuns.moves {s b : State} {round : List EngineId} (h : RoundRuns s round) (hm : Moves s b) : RoundRuns b round :=
  fun e he x f hj => hm.someUnderWay (h e he x f (by rw [← hm.work]; exact hj))

theorem engineJob_eq_some {s : State} {e : EngineId} {j : Job} (h : engineJob s e = some j) :
    (engineOf s e).job = some (j.stream, j.frame) ∧ j ∈ s.jsc.jobs := by
  unfold engineJob at h
  split at h
  · rename_i x f hj
    have hk := List.find?_some h
    rw [Bool.and_eq_true, beq_iff_eq, beq_iff_eq] at hk
    exact ⟨by rw [hj, hk.1, hk.2], List.mem_of_find?_eq_some h⟩
  · cases h

theorem RoundRuns.given {s : State} {round : List EngineId} {j : Job} (h : RoundRuns s round) (hj : j ∈ readyJobs s)
    (e : EngineId) : RoundRuns (given s round j e) (round ++ [e]) := by
  have hi := issued_given (round := round) (e := e) hj
  have hnew : someUnderWay (Machine.given s round j e) j.stream :=
    ⟨_, List.mem_map_of_mem (of_mem_readyJobs hj).1, by simp, by simp [underWay]⟩
  intro d hd x f hx
  rw [show engineOf (Machine.given s round j e) d = if d = e then _ else _ from engineOf_setEngine _ e d _] at hx
  split at hx
  · cases hx
    exact hnew
  · rename_i hne
    have hin : d ∈ round := (List.mem_append.1 hd).resolve_right fun hs => hne (List.mem_singleton.1 hs)
    exact hi.someUnderWay (h d hin x f hx)

theorem issued_assign {n : Nat} {s : State} {round : List EngineId} (h : RoundRuns s round) :
    Issued s (assign n s round).1 ∧ RoundRuns (assign n s round).1 (assign n s round).2 := by
  induction n generalizing s round with
  | zero => exact ⟨.refl s, h⟩
  | succ n ih =>
    cases hr : (readyJobs s).head? with
    | none => rw [assign_none_ready (List.head?_eq_none_iff.1 hr)]; exact ⟨.refl s, h⟩
    | some j =>
      rw [assign_succ hr]
      have hj := List.mem_of_head? hr
      split
      · exact ⟨.refl s, h⟩
      · rename_i e _
        obtain ⟨h1, h2⟩ := ih (h.given hj e)
        exact ⟨(issued_given hj).trans h1, h2⟩

theorem moves_foldl_beginMoves {round es : List EngineId} {s : State} (h : RoundRuns s es) :
    Moves s (es.foldl (beginMoves round) s) := by
  induction es generalizing s with
  | nil => exact .refl s
  | cons e es ih =>
    have h1 : Moves s (beginMoves round s e) :=
      moves_beginMoves fun j hj => h e List.mem_cons_self _ _ (engineJob_eq_some hj).1
    have hr : RoundRuns s es := fun d hd => h d (List.mem_cons_of_mem e hd)
    exact h1.trans (ih (hr.moves h1))

theorem issued_issueRound (s : State) : Issued s (issueRound s) := by
  refine keeps_ite (fun _ => .refl s) fun _ => ?_
  obtain ⟨h1, h2⟩ := issued_assign (n := 3) (s := s) (round := []) (fun _ he => by cases he)
  exact h1.trans (moves_foldl_beginMoves h2).issued

/-- What every change of the job table ends with. -/
theorem issued_settleJobs (s : State) : Issued s (settleJobs s) := (issued_retest s).trans (issued_issueRound _)

/-- The job of a stream-frame, after an issue round. -/
theorem Issued.jobOf {a b : State} (h : Issued a b) (x : StreamId) (f : FrameCount) :
    (jobOf b x f).map Job.plan = (jobOf a x f).map Job.plan := by
  have hfind (s : State) : (Machine.jobOf s x f).map Job.plan =
      (s.jsc.jobs.map Job.plan).find? (fun j => j.stream == x && j.frame == f) := by
    rw [List.find?_map]
    rfl
  rw [hfind, hfind, h.plans]

/-! ### Creation (R58, R60) -/

/-- A stream-frame for which a job is wanted. -/
structure Wanted where
  stream : StreamId
  cls : JobClass
  frame : FrameCount
  release : Instant

/-- It is this stream-frame's. -/
def Wanted.isOf (x : StreamId) (f : FrameCount) (q : Wanted) : Bool := q.stream == x && q.frame == f

/-- The job that a creation makes, but for its readiness. -/
def plannedJob (u : MapUnit) (q : Wanted) (e : MapEntry) : Job :=
  { stream := q.stream, frame := q.frame, changeCount := (applicable u q.frame).count, start := e.start, grains := e.grains,
    profile := e.profile, kind := e.kind, cls := q.cls, speculative := nextApplies u q.frame, discard := false,
    release := q.release, state := .waiting, engine := 0, source := .cold, started := 0, putOff := false }

/-- The job table after a creation. -/
def addJob (u : MapUnit) (js : List Job) (q : Wanted) : List Job :=
  match (applicable u q.frame).entryOf q.stream with
  | none => js
  | some e =>
    if (js.find? (fun j => j.stream == q.stream && j.frame == q.frame)).isSome ∨ jobLimit ≤ js.length then js
    else js ++ [{ plannedJob u q e with state := readiness js (plannedJob u q e) }]

theorem createJob_jobs (s : State) (x : StreamId) (c : JobClass) (f : FrameCount) (r : Instant) :
    (createJob s x c f r).jsc.jobs = addJob s.maps s.jsc.jobs ⟨x, c, f, r⟩ := by
  have hopen : (if nextApplies s.maps f = true then openCheckpoint s x else s).jsc.jobs = s.jsc.jobs := by
    split
    · exact openCheckpoint_jobs s x
    · rfl
  unfold createJob addJob
  dsimp only
  cases (applicable s.maps f).entryOf x with
  | none => rfl
  | some e =>
    dsimp only
    unfold jobOf
    split
    · rfl
    · rw [setJobs_jsc_jobs, hopen]
      rfl

/-- The marker has no part in creation. -/
theorem Marked.addJob {a b : State} (h : Marked a b) : addJob b.maps = addJob a.maps := by
  rw [h.1]
  rfl

section

variable {u : MapUnit} {js : List Job} {q : Wanted}

theorem prefix_addJob : js <+: addJob u js q := by
  unfold addJob
  split
  · exact List.prefix_rfl
  · split
    · exact List.prefix_rfl
    · exact List.prefix_append _ _

theorem length_addJob_le : (addJob u js q).length ≤ js.length + 1 := by
  unfold addJob
  split
  · omega
  · split
    · omega
    · simp

/-- A job of the table is one it held or one made now, not under way. -/
theorem mem_addJob {j : Job} (h : j ∈ addJob u js q) :
    j ∈ js ∨ ∃ e, (applicable u q.frame).entryOf q.stream = some e ∧ j.plan = plannedJob u q e ∧ underWay j = false := by
  unfold addJob at h
  split at h
  · exact .inl h
  · rename_i e he
    split at h
    · exact .inl h
    · refine (List.mem_append.1 h).imp id fun hj => ⟨e, he, ?_⟩
      rw [List.mem_singleton.1 hj]
      exact ⟨rfl, underWay_readiness js _⟩

end

theorem prefix_foldl_addJob (u : MapUnit) (js : List Job) (qs : List Wanted) : js <+: qs.foldl (addJob u) js := by
  induction qs generalizing js with
  | nil => exact List.prefix_rfl
  | cons q qs ih => exact prefix_addJob.trans (ih _)

theorem mem_foldl_addJob {u : MapUnit} {js : List Job} {qs : List Wanted} {j : Job} (h : j ∈ qs.foldl (addJob u) js) :
    j ∈ js ∨ ∃ q ∈ qs, ∃ e, (applicable u q.frame).entryOf q.stream = some e ∧ j.plan = plannedJob u q e ∧
      underWay j = false := by
  induction qs generalizing js with
  | nil => exact .inl h
  | cons q qs ih =>
    rcases ih h with hj | ⟨p, hp, hj⟩
    · exact (mem_addJob hj).imp id fun ⟨e, he⟩ => ⟨q, List.mem_cons_self, e, he⟩
    · exact .inr ⟨p, List.mem_cons_of_mem q hp, hj⟩

theorem find?_of_prefix {α : Type} {p : α → Bool} {l m : List α} {a : α} (h : l <+: m) (hl : l.find? p = some a) :
    m.find? p = some a := by
  obtain ⟨t, rfl⟩ := h
  rw [List.find?_append, hl]
  rfl

theorem addJob_other {u : MapUnit} {js : List Job} {q : Wanted} {x : StreamId} {f : FrameCount} (hq : q.isOf x f = false)
    (h : js.find? (fun j => j.stream == x && j.frame == f) = none) :
    (addJob u js q).find? (fun j => j.stream == x && j.frame == f) = none := by
  refine List.find?_eq_none.2 fun j hj hp => ?_
  rcases mem_addJob hj with hin | ⟨e, -, hpl, -⟩
  · exact List.find?_eq_none.1 h j hin hp
  · have h1 : j.stream = q.stream := (congrArg Job.stream hpl :)
    have h2 : j.frame = q.frame := (congrArg Job.frame hpl :)
    rw [h1, h2] at hp
    rw [Wanted.isOf, hp] at hq
    cases hq

/-- Where there is room for every job wanted, the first one wanted for a stream-frame without a job is made. -/
theorem find?_foldl_addJob {u : MapUnit} {js : List Job} {qs : List Wanted} {q : Wanted} {x : StreamId} {f : FrameCount}
    {e : MapEntry} (hroom : js.length + qs.length ≤ 32) (hq : qs.find? (Wanted.isOf x f) = some q)
    (hn : js.find? (fun j => j.stream == x && j.frame == f) = none) (he : (applicable u f).entryOf x = some e) :
    ∃ j, (qs.foldl (addJob u) js).find? (fun j => j.stream == x && j.frame == f) = some j ∧ j.plan = plannedJob u q e := by
  induction qs generalizing js with
  | nil => cases hq
  | cons p qs ih =>
    rw [List.length_cons] at hroom
    rw [List.foldl_cons]
    cases hp : p.isOf x f with
    | false =>
      rw [List.find?_cons, hp] at hq
      have hl : (addJob u js p).length ≤ js.length + 1 := length_addJob_le
      exact ih (by omega) hq (addJob_other hp hn)
    | true =>
      rw [List.find?_cons, hp] at hq
      cases hq
      obtain ⟨hx, hf⟩ : q.stream = x ∧ q.frame = f := by simpa [Wanted.isOf] using hp
      subst hx hf
      refine ⟨{ plannedJob u q e with state := readiness js (plannedJob u q e) },
        find?_of_prefix (prefix_foldl_addJob u _ qs) ?_, rfl⟩
      have hnew : addJob u js q = js ++ [{ plannedJob u q e with state := readiness js (plannedJob u q e) }] := by
        rw [addJob, he]
        refine if_neg ?_
        rw [hn]
        rintro (h | h)
        · cases h
        · have h32 : 32 ≤ js.length := h
          omega
      rw [hnew, List.find?_append, hn]
      simp [plannedJob]

/-! ### The jobs wanted for a frame (R58, R63) -/

/-- The jobs of one frame at its payload end, in order. -/
def wantedAt (s : State) (f : FrameCount) (r : Instant) : List Wanted := (decodeSet s).map (fun p => ⟨p.1, p.2, f, r⟩)

/-- The jobs of one frame, streams whose cursor is past it left out. -/
def missedAt (s : State) (f : FrameCount) (r : Instant) : List Wanted :=
  ((decodeSet s).filter (fun p => !cursorPast s p.1 f)).map (fun p => ⟨p.1, p.2, f, r⟩)

theorem foldl_createJob_jobs (l : List (StreamId × JobClass)) (s : State) (f : FrameCount) (r : Instant) :
    (l.foldl (fun s p => createJob s p.1 p.2 f r) s).jsc.jobs =
      (l.map (fun p => ⟨p.1, p.2, f, r⟩)).foldl (addJob s.maps) s.jsc.jobs := by
  induction l generalizing s with
  | nil => rfl
  | cons p l ih =>
    rw [List.foldl_cons, ih, createJob_jobs, (marked_createJob s p.1 p.2 f r).addJob]
    rfl

theorem createFrame_jobs (s : State) (f : FrameCount) (r : Instant) :
    (createFrame s f r).jsc.jobs = (wantedAt s f r).foldl (addJob s.maps) s.jsc.jobs := foldl_createJob_jobs _ s f r

theorem cursorPast_createJob (s : State) (x : StreamId) (c : JobClass) (f g : FrameCount) (r : Instant) (y : StreamId) :
    cursorPast (createJob s x c f r) y g = cursorPast s y g := by
  unfold cursorPast
  rw [cursorFrame_congr (within_createJob s x c f r).cursors]

theorem createMissed_jobs (s : State) (f : FrameCount) (r : Instant) :
    (createMissed s f r).jsc.jobs = (missedAt s f r).foldl (addJob s.maps) s.jsc.jobs := by
  unfold createMissed missedAt
  induction decodeSet s generalizing s with
  | nil => rfl
  | cons p l ih =>
    rw [List.foldl_cons, ih]
    cases hp : cursorPast s p.1 f with
    | true => rw [if_pos rfl, List.filter_cons_of_neg (by simp [hp])]
    | false =>
      have hc : (fun q : StreamId × JobClass => !cursorPast (createJob s p.1 p.2 f r) q.1 f) = fun q => !cursorPast s q.1 f := by
        funext q
        rw [cursorPast_createJob]
      rw [if_neg (by simp), List.filter_cons_of_pos (by simp [hp]), List.map_cons, List.foldl_cons, createJob_jobs,
        (marked_createJob s p.1 p.2 f r).addJob, hc]

end Sys2Proof.Machine

/-! PROOFS. O48, O50, O51: the device requests ENSEMBLE_CHANGE, QUIESCE and RESUME. -/

namespace Sys2Proof.Machine

-- one theorem at a time: elaborated side by side, they would hold more threads than the check allows
set_option Elab.async false

/-! ### The kinds that an offer leaves in the queue -/

theorem offerEntry_kinds {P : MsgKind → Prop} {s : State} {e : Entry} (h : ∀ d ∈ s.lnk.queue, P d.kind) (he : P e.kind) :
    ∀ d ∈ (offerEntry s e).1.lnk.queue, P d.kind := by
  have hheld : ∀ d ∈ (rewriteHeld s e).lnk.queue, P d.kind := by
    intro d hd
    obtain ⟨c, hc, rfl⟩ := List.mem_map.1 hd
    split <;> exact h c hc
  have hnew {q : List Entry} (hq : ∀ d ∈ q, P d.kind) : ∀ d ∈ (insertNew (setQueue s q) e).lnk.queue, P d.kind :=
    fun d hd => (mem_placeEntry.1 hd).elim (fun k => k ▸ he) (hq d)
  rcases offerEntry_cases s e with ⟨-, ho⟩ | ⟨-, -, ⟨-, ho⟩ | ⟨-, ho⟩ | ⟨-, -, ho⟩⟩ | ⟨-, -, ⟨-, -, ho⟩ | ⟨-, ho⟩ | ⟨-, last, -, hl⟩⟩
  · rw [ho]; exact h
  · rw [ho]; exact hheld
  · rw [ho]; exact hheld
  · rw [ho]; exact h
  · rw [ho]; exact h
  · rw [ho]; exact hnew h
  · rcases hl with ⟨-, ho⟩ | ⟨-, ho⟩
    · rw [ho]
      exact fun d hd => hnew (fun c hc => h c (List.dropLast_sublist _ |>.subset hc)) d
        ((tellStore_queue_sublist (insertNew (countQueueDrop (setQueue s s.lnk.queue.dropLast)) e) last).subset hd)
    · rw [ho]; exact h

theorem testNotice_kinds {P : MsgKind → Prop} {s : State} (h : ∀ d ∈ s.lnk.queue, P d.kind) (hm : P .map) :
    ∀ d ∈ (testNotice s).lnk.queue, P d.kind := by
  have ho (isNext : Bool) : ∀ d ∈ (offerEntry s (noticeEntry s isNext)).1.lnk.queue, P d.kind := offerEntry_kinds h hm
  unfold testNotice
  dsimp only
  split
  · split
    · exact ho _
    · exact ho _
  · exact h

theorem offer_kinds {P : MsgKind → Prop} {s : State} {e : Entry} (h : ∀ d ∈ s.lnk.queue, P d.kind) (he : P e.kind)
    (hm : P .map) : ∀ d ∈ (offer s e).1.lnk.queue, P d.kind := by
  have ho := offerEntry_kinds h he
  unfold offer
  dsimp only
  split
  · exact testNotice_kinds ho hm
  · exact ho

theorem offerEntry_records_sublist (s : State) (e : Entry) : (offerEntry s e).1.pst.records.Sublist s.pst.records := by
  rcases offerEntry_cases s e with ⟨-, ho⟩ | ⟨-, -, ⟨-, ho⟩ | ⟨-, ho⟩ | ⟨-, -, ho⟩⟩ | ⟨-, -, ⟨-, -, ho⟩ | ⟨-, ho⟩ | ⟨-, last, -, hl⟩⟩
  · rw [ho]
  · rw [ho]; exact .refl _
  · rw [ho]; exact .refl _
  · rw [ho]
  · rw [ho]; exact .refl _
  · rw [ho]; exact .refl _
  · rcases hl with ⟨-, ho⟩ | ⟨-, ho⟩
    · rw [ho]
      exact tellStore_records_sublist (insertNew (countQueueDrop (setQueue s s.lnk.queue.dropLast)) e) last
    · rw [ho]; exact .refl _

theorem testNotice_records_sublist (s : State) : (testNotice s).pst.records.Sublist s.pst.records := by
  have ho (isNext : Bool) := offerEntry_records_sublist s (noticeEntry s isNext)
  unfold testNotice
  dsimp only
  split
  · split
    · exact ho _
    · exact ho _
  · exact .refl _

theorem offer_records_sublist (s : State) (e : Entry) : (offer s e).1.pst.records.Sublist s.pst.records := by
  have ho := offerEntry_records_sublist s e
  unfold offer
  dsimp only
  split
  · exact (testNotice_records_sublist _).trans ho
  · exact ho

/-- With no notice wanted, an offer is that of the entry alone. -/
theorem offer_unwanted {s : State} {e : Entry} (hc : s.maps.wantCurrent = false) (hn : s.maps.wantNext = false) :
    offer s e = offerEntry s e := by
  have hw := (within_offerEntry s e).maps
  unfold offer
  dsimp only
  split
  · rw [testNotice_unwanted (by rw [hw]; exact hc) (by rw [hw]; exact hn)]
  · rfl

theorem arb_newEntry_zero (s : State) {k : MsgKind} (hk : classOf k = 0) (x : Option StreamId) (f : Option FrameCount)
    (b : EntryBody) : (newEntry s k x f 0 b).arb = ownField s 0 0 := by
  show arbField (classOf k) 0 _ = _
  rw [hk]
  rfl

theorem queued_of_kinds {s : State} {k : MsgKind} (h : ∀ d ∈ s.lnk.queue, d.kind ≠ k) (x : Option StreamId)
    (f : Option FrameCount) : queued s k x f = false := by
  rw [← Bool.not_eq_true, queued, List.any_eq_true]
  rintro ⟨d, hd, hm⟩
  simp only [entryMatches, Bool.and_eq_true, beq_iff_eq] at hm
  exact h d hd hm.1.1

theorem Heard.online {s : State} {k : MsgKind} {m : LinkMessage} (h : Heard s k m) : s.lnk.state ≠ .offline := by
  have hr := h.1
  simp only [isReceiver, Bool.and_eq_true, bne_iff_ne] at hr
  exact hr.1.1

/-! ### ENSEMBLE_CHANGE (R177) -/

theorem abandonAll_queue_sublist (s : State) : (abandonAll s).lnk.queue.Sublist (s.lnk.queue.filter isStatusEntry) :=
  (clearQueue_queue_sublist _ _).trans
    ((freeRecords_queue_sublist (emptyArrivals (stopEngines s)) (fun _ => true)).filter _)

/-- Every block cleared, under the new ensemble id, with nothing offered yet. -/
def drained (s : State) (id : EnsembleId) : State := retune (forgetEnsemble (abandonAll (enterDraining s))) id

/-- The same, with the status timer started where frame time ends. -/
def drainedTimed (s : State) (id : EnsembleId) : State :=
  if s.ftr.sync == .locked || s.ftr.sync == .holdover then startStatusTimer (drained s id) else drained s id

theorem drained_eq (s : State) (id : EnsembleId) :
    drained s id = retune (forgetEnsemble (abandonAll (enterDraining s))) id := rfl

theorem within_drainedTimed (s : State) (id : EnsembleId) : Within [.statusTimer] (drained s id) (drainedTimed s id) :=
  .ite (fun _ => within_setStatusTimer _ _) fun _ => .refl _ _

theorem ensembleChange_eq (s : State) (id : EnsembleId) :
    ensembleChange s id = (offerEntry (drainedTimed s id) (newEntry (drainedTimed s id) .drained none none 0 .empty)).1 := by
  have hm : (drainedTimed s id).maps = MapUnit.reset := by
    rw [(within_drainedTimed s id).maps, drained_eq]
    rfl
  show (offer (drainedTimed s id) _).1 = _
  rw [offer_unwanted (by rw [hm]; rfl) (by rw [hm]; rfl)]
  rfl

theorem within_forgotten (s : State) (id : EnsembleId) :
    Within [.mapUnit, .table, .claims, .peers, .cursors, .releaseList, .slots, .tracker] s (retune (forgetEnsemble s) id) :=
  (within_forgetEnsemble s).mono.trans (within_setTracker (forgetEnsemble s) _).mono

/-- What is forgotten, whatever went before. -/
theorem forgotten_users (s : State) (id : EnsembleId) :
    let u := retune (forgetEnsemble s) id
    u.sub.table = [] ∧ u.sub.claims = [] ∧ u.sub.claimLoad = 0 ∧ u.sub.claimsOpen = false ∧ u.sub.armed = s.sub.armed ∧
    (∀ p, u.sub.peers.get p = Peer.absent) ∧ u.dlv.cursors = [] ∧ u.dlv.releaseList = [] ∧ u.maps = MapUnit.reset ∧
    u.ilm = Ilm.reset ∧ u.ftr = { Tracker.reset with
      count := s.ftr.count, expected := some id, control := idleControl s.ftr.control } :=
  ⟨rfl, rfl, rfl, rfl, rfl, fun _ => Table.get_update _ _ _, rfl, rfl, rfl, rfl, rfl⟩

theorem statusTimer_drainedTimed (s : State) (id : EnsembleId) : (drainedTimed s id).mod.statusTimer =
    if s.ftr.sync = .locked ∨ s.ftr.sync = .holdover then some (s.now + 72000000) else s.mod.statusTimer := by
  have hf := within_forgotten (abandonAll (enterDraining s)) id
  have ha := within_abandonAll (enterDraining s)
  rw [← drained_eq] at hf
  have hnow : (drained s id).now = s.now := hf.now.trans ha.now
  have hst : (drained s id).mod.statusTimer = s.mod.statusTimer := hf.statusTimer.trans ha.statusTimer
  have hc : (s.ftr.sync == .locked || s.ftr.sync == .holdover) = true ↔ s.ftr.sync = .locked ∨ s.ftr.sync = .holdover := by
    simp
  unfold drainedTimed
  rw [if_congr hc rfl rfl]
  split
  · show some ((drained s id).now + framePeriod) = _
    rw [hnow]
  · exact hst

theorem contextOf_stopEngines (s : State) (x : StreamId) :
    contextOf (stopEngines s) x = { coldContext (contextOf s x) with checkpoint := .none } := Table.get_update _ _ _

theorem within_stoppedAll (s : State) : Within [.store, .queue] (emptyArrivals (stopEngines s)) (abandonAll s) :=
  (within_emptyStore _).mono.trans (within_clearQueue _ _).mono

/-- The job scheduler of a drained part: no job, no arrival, engines idle, contexts COLD. -/
theorem drained_scheduler (s : State) (id : EnsembleId) :
    (drained s id).jsc.jobs = [] ∧ (drained s id).jsc.arrivals = [] ∧ (∀ e, engineOf (drained s id) e = .reset) ∧
    (∀ x, contextOf (drained s id) x = { coldContext (contextOf s x) with checkpoint := .none }) := by
  have hf := within_forgotten (abandonAll (enterDraining s)) id
  have ha := within_stoppedAll (enterDraining s)
  rw [drained_eq]
  refine ⟨by rw [hf.jobs, ha.jobs]; rfl, by rw [hf.arrivals, ha.arrivals]; rfl, fun e => ?_, fun x => ?_⟩
  · rw [engineOf, hf.engines, ha.engines]
    exact stopEngines_idle (enterDraining s) e
  · rw [contextOf, hf.contexts, ha.contexts]
    exact contextOf_stopEngines (enterDraining s) x

/-- Mode, counters, store, queue and line of a drained part. -/
theorem drained_module (s : State) (id : EnsembleId) :
    (drained s id).mod.mode = .draining ∧ (drained s id).mod.returnMode = drainReturn s ∧
    (drained s id).mod.counters = s.mod.counters ∧ (drained s id).mod.straps = s.mod.straps ∧
    (drained s id).pst.records = [] ∧ (drained s id).lnk.queue.Sublist (s.lnk.queue.filter isStatusEntry) ∧
    (drained s id).lnk.state = s.lnk.state ∧ (drained s id).lnk.attempt = s.lnk.attempt := by
  have hf := within_forgotten (abandonAll (enterDraining s)) id
  have ha := within_abandonAll (enterDraining s)
  have hq := abandonAll_queue_sublist (enterDraining s)
  rw [drained_eq]
  exact ⟨hf.mode.trans ha.mode, hf.returnMode.trans ha.returnMode, hf.counters.trans ha.counters, hf.straps.trans ha.straps,
    hf.records.trans (abandonAll_records _), by rw [hf.queue]; exact hq, hf.linkState.trans ha.linkState,
    hf.attempt.trans ha.attempt⟩

/-- Subscriptions, peers, cursors, maps, slots and tracker of a drained part. -/
theorem drained_users (s : State) (id : EnsembleId) :
    (drained s id).sub.table = [] ∧ (drained s id).sub.claims = [] ∧ (drained s id).sub.claimLoad = 0 ∧
    (drained s id).sub.claimsOpen = false ∧ (drained s id).sub.armed = s.sub.armed ∧
    (∀ p, (drained s id).sub.peers.get p = Peer.absent) ∧ (drained s id).dlv.cursors = [] ∧
    (drained s id).dlv.releaseList = [] ∧ (drained s id).maps = MapUnit.reset ∧ (drained s id).ilm = Ilm.reset ∧
    (drained s id).ftr = { Tracker.reset with
      count := s.ftr.count, expected := some id, control := idleControl s.ftr.control } := by
  have ha := within_abandonAll (enterDraining s)
  obtain ⟨h1, h2, h3, h4, h5, h6, h7, h8, h9, h10, h11⟩ := forgotten_users (abandonAll (enterDraining s)) id
  rw [ha.ftr] at h11
  exact ⟨h1, h2, h3, h4, h5.trans ha.armed, h6, h7, h8, h9, h10, h11⟩

/-- Settles O48. -/
theorem ensembleChangeClears : Obligations.EnsembleChangeClears := by
  intro s t m hs hm
  let b := heardState s t
  let id := word16 m.body 0
  let c := drainedTimed b id
  let e := newEntry c .drained none none 0 .empty
  obtain ⟨hjobs, harr, heng, hctx⟩ := drained_scheduler b id
  obtain ⟨hmode, hret, hcount, hstraps, hrec, hq, hstate, hatt⟩ := drained_module b id
  obtain ⟨htab, hcls, hload, hopen, harm, hpeers, hcur, hrel, hmaps, hilm, hftr⟩ := drained_users b id
  have hc := within_drainedTimed b id
  have ho : Within [.store, .queue, .counters] c (offerEntry c e).1 := within_offerEntry c e
  have hu : Within [.statusTimer, .store, .queue, .counters] (drained b id) (offerEntry c e).1 := hc.mono.trans ho.mono
  have hset : Settled (offerEntry c e).1 := .inr ⟨hu.claims.trans hcls, hu.claimLoad.trans hload, hu.claimsOpen.trans hopen⟩
  have hrec' : (offerEntry c e).1.pst.records = [] := by
    have hsub := offerEntry_records_sublist c e
    rw [hc.records, hrec] at hsub
    exact List.sublist_nil.1 hsub
  have hstatus : ∀ d ∈ c.lnk.queue, d.kind = .status := by
    intro d hd
    rw [hc.queue] at hd
    simpa [isStatusEntry] using (List.mem_filter.1 (hq.subset hd)).2
  refine ⟨_, exec_heard hs hm rfl (ensembleChange_eq b id) hset, hu.mode.trans hmode, hu.returnMode.trans hret,
    hu.jobs.trans hjobs, hu.arrivals.trans harr, fun d => ?_, fun x => ?_, hrec', ?_, fun hroom => ?_, ?_⟩
  · rw [engineOf, hu.engines]
    rw [show (drained b id).jsc.engines.get d = _ from heng d]
    exact ⟨rfl, rfl⟩
  · rw [contextOf, hu.contexts]
    rw [show (drained b id).jsc.contexts.get x = _ from hctx x]
    exact ⟨rfl, rfl, rfl⟩
  · exact offerEntry_kinds (P := fun k => k = .status ∨ k = .drained) (fun d hd => .inl (hstatus d hd)) (.inr rfl)
  · have hlen : c.lnk.queue.length < 24 := by
      rw [hc.queue]
      refine Nat.lt_of_le_of_lt (hq.length_le.trans ?_) hroom
      rw [← List.countP_eq_length_filter]
      exact Nat.le_refl _
    have hins : (offerEntry c e).1 = insertNew c e := by
      have hr : RoomFor c e.kind e.stream e.frame :=
        ⟨by rw [hc.linkState, hstate]; exact Heard.online hm,
          queued_of_kinds (fun d hd hk => by rw [hstatus d hd] at hk; cases hk) none none, hlen⟩
      have := offerAnyway_of_room hr (by decide : MsgKind.drained ≠ .trace)
      rwa [offerAnyway, offer_unwanted (by rw [hc.maps, hmaps]; rfl) (by rw [hc.maps, hmaps]; rfl)] at this
    refine ⟨⟨numbered c e, by rw [hins]; exact numbered_mem c e, rfl, ?_⟩, ?_⟩
    · refine (arb_newEntry_zero c rfl none none .empty).trans ?_
      unfold ownField
      rw [hc.straps, hstraps]
      rfl
    · rw [hins]
      exact hc.counters.trans hcount
  · have hmaps' := hu.maps.trans hmaps
    have hilm' := hu.ilm.trans hilm
    have hftr' := hu.ftr.trans hftr
    rw [hmaps', hilm', hftr']
    refine ⟨rfl, rfl, rfl, rfl, rfl, rfl, rfl, hu.table.trans htab, hu.claims.trans hcls, hu.armed.trans harm, fun p => ?_,
      hu.cursors.trans hcur, hu.releaseList.trans hrel, fun n => by simp [Ilm.reset, Slot.empty], rfl, rfl, rfl, rfl, rfl, rfl, rfl,
      hu.linkState.trans hstate, hu.attempt.trans hatt, ho.statusTimer.trans (statusTimer_drainedTimed b id), ?_⟩
    · rw [hu.peers, hpeers]
      exact ⟨rfl, rfl⟩
    · rw [← ensembleChange_eq b id]
      exact (within_heardState s t).mono.trans (within_ensembleChange b id).mono

/-! ### QUIESCE (R180, R181) -/

/-- The state before the report of idle engines. -/
def quieted (s : State) : State := settleClaims (emptyStore (withdraw (quiesceJobs (setMode s .quiescing)) copyEntry))

theorem quiesceWork_eq (s : State) : quiesceWork s = reportIdle (quieted s) := rfl

theorem within_quieted (s : State) : Within [.scheduler, .store, .queue, .claims, .mode] s (quieted s) :=
  ((((within_setMode s _).mono.trans (within_quiesceJobs _).mono).trans (within_withdraw _ _).mono).trans
    (within_emptyStore _).mono).trans (within_settleClaims _).mono

theorem quieted_jobs (s : State) : Within [.store, .queue, .claims] (quiesceJobs (setMode s .quiescing)) (quieted s) :=
  ((within_withdraw _ _).mono.trans (within_emptyStore _).mono).trans (within_settleClaims _).mono

theorem quieted_records (s : State) : (quieted s).pst.records = [] :=
  (within_settleClaims _).records.trans (emptyStore_records _)

theorem quieted_queue_sublist (s : State) : (quieted s).lnk.queue.Sublist (s.lnk.queue.filter (fun e => !copyEntry e)) := by
  rw [quieted, (within_settleClaims _).queue]
  exact freeRecords_queue_sublist _ _

theorem claimless_quieted (s : State) : Claimless (quieted s) :=
  claimless_of_mode (settled_settleClaims _) (by rw [show (quieted s).mod.mode = .quiescing from (quieted_jobs s).mode]; decide)

/-- Settles O50. -/
theorem quiesceStopsWork : Obligations.QuiesceStopsWork := by
  intro s t m hs hm ha
  refine ⟨fun hrun => ?_, fun hrun => ?_⟩
  · let b := heardState s t
    have hu : (if addressed b m = true then quiesce b else b) = reportIdle (quieted b) := by
      rw [if_pos (show addressed b m = true from ha), quiesce, if_pos (show b.mod.mode = .running from hrun)]
      rfl
    have hw : Within [.store, .queue, .counters, .mapUnit] (quieted b) (reportIdle (quieted b)) := within_reportIdle _
    have hq := quieted_jobs b
    have hmode : (quieted b).mod.mode = .quiescing := hq.mode
    have hset : Settled (reportIdle (quieted b)) := ((claimless_quieted b).within hw).settled
    have hkinds : ∀ d ∈ (quieted b).lnk.queue, d.kind ≠ .parcel ∧ d.kind ≠ .gap ∧ d.kind ≠ .trace := by
      intro d hd
      have := (List.mem_filter.1 ((quieted_queue_sublist b).subset hd)).2
      simpa [copyEntry, and_assoc] using this
    refine ⟨_, exec_heard hs hm rfl hu hset, hw.mode.trans hmode, hw.jobs.trans hq.jobs, hw.engines.trans hq.engines,
      hw.contexts.trans hq.contexts, ?_, hw.claims.trans (claimless_quieted b).1, ?_, fun hidle hroom => ?_,
      ((within_heardState s t).mono.trans (within_quieted b).mono).trans hw.mono⟩
    · have hsub : (reportIdle (quieted b)).pst.records.Sublist (quieted b).pst.records := by
        unfold reportIdle
        split
        · exact offer_records_sublist _ _
        · exact .refl _
      rw [quieted_records] at hsub
      exact List.sublist_nil.1 hsub
    · unfold reportIdle
      split
      · exact offer_kinds (P := fun k => k ≠ .parcel ∧ k ≠ .gap ∧ k ≠ .trace) hkinds
          (show MsgKind.quiesced ≠ .parcel ∧ MsgKind.quiesced ≠ .gap ∧ MsgKind.quiesced ≠ .trace by decide) (by decide)
      · exact hkinds
    · have hsub : (quieted b).lnk.queue.Sublist s.lnk.queue := (quieted_queue_sublist b).trans List.filter_sublist
      have hr : RoomFor (quieted b) .quiesced none none := by
        obtain ⟨h1, h2, h3⟩ := hroom
        refine ⟨by rw [hq.linkState]; exact h1, ?_, Nat.lt_of_le_of_lt hsub.length_le h3⟩
        rw [← Bool.not_eq_true, queued, List.any_eq_true] at h2 ⊢
        exact fun ⟨d, hd, hm⟩ => h2 ⟨d, hsub.subset hd, hm⟩
      have hidle' : allIdle (quieted b) = true := by
        unfold allIdle
        rw [hq.engines]
        exact hidle
      have hrep : reportIdle (quieted b) = insertNew (quieted b) (newEntry (quieted b) .quiesced none none 0 .empty) := by
        rw [reportIdle, if_pos ⟨hmode, hidle'⟩]
        exact offerAnyway_of_room hr (show MsgKind.quiesced ≠ .trace by decide)
      rw [hrep]
      refine ⟨numbered _ _, numbered_mem _ _, rfl, (arb_newEntry_zero _ rfl none none .empty).trans ?_⟩
      unfold ownField
      rw [hq.straps]
      rfl
  · refine exec_heard hs hm rfl ?_ (settled_heardState hs t)
    rw [if_pos (show addressed (heardState s t) m = true from ha)]
    exact if_neg hrun

/-! ### RESUME (R182) -/

/-- The state of RESUME before the issue round. -/
def resumed (s : State) : State := testNotice (withdraw (resumeContexts (setMode s .running)) (fun e => e.kind == .quiesced))

theorem within_resumed (s : State) : Within [.scheduler, .store, .queue, .counters, .mapUnit] (setMode s .running) (resumed s) :=
  ((within_resumeContexts _).mono.trans (within_withdraw _ _).mono).trans (within_testNotice _).mono

theorem contextOf_resumed (s : State) (x : StreamId) : contextOf (resumed s) x = coldContext (contextOf s x) := by
  have hw : Within [.store, .queue, .counters, .mapUnit] (resumeContexts (setMode s .running)) (resumed s) :=
    (within_withdraw _ _).mono.trans (within_testNotice _).mono
  rw [contextOf, hw.contexts]
  exact Table.get_update _ _ _

/-- Settles O51. -/
theorem resumeRuns : Obligations.ResumeRuns := by
  intro s t m hs hm ha
  have hown (b : State) (hb : b = resume (heardState s t)) :
      (if addressed (heardState s t) m = true then resume (heardState s t) else heardState s t) = b := by
    rw [if_pos (show addressed (heardState s t) m = true from ha), hb]
  refine ⟨fun hmode => ?_, fun hmode hret => ?_, fun hmode => ?_⟩
  · let b := heardState s t
    have hr : settleJobs (resumed b) = resume b := by
      rcases hmode with h | h <;>
      · unfold resume
        rw [show b.mod.mode = _ from h]
        rfl
    have hi := issued_settleJobs (resumed b)
    have hw : Within [.scheduler, .store, .queue, .counters, .mapUnit] (setMode b .running) (settleJobs (resumed b)) :=
      (within_resumed b).trans hi.scope.mono
    have hne : s.mod.mode ≠ .running := by rcases hmode with h | h <;> rw [h] <;> decide
    have hset : Settled (settleJobs (resumed b)) :=
      (Claimless.within (claimless_of_mode hs.2 hne) (((within_heardState s t).mono.trans (within_setMode b _).mono).trans
        hw.mono : Within [.time, .line, .mode, .scheduler, .store, .queue, .counters, .mapUnit] s _)).settled
    refine ⟨_, exec_heard hs hm rfl (hown _ hr) hset, hw.mode, fun x => ?_, ?_, hw.attempt,
      ((within_heardState s t).mono.trans (within_setMode b _).mono).trans hw.mono⟩
    · have hx := hi.contexts x
      exact ⟨hx.cold (by rw [contextOf_resumed]; rfl), hx.next.trans (by rw [contextOf_resumed]; rfl)⟩
    · rw [hi.scope.queue]
      refine testNotice_kinds (P := (· ≠ .quiesced)) (fun d hd => ?_) (by decide)
      simpa using (List.mem_filter.1 hd).2
  · have hr : { s.clocked t with
        lnk := { s.lnk with endSlot := .recessive }, mod := { s.mod with returnMode := some .running } } =
        resume (heardState s t) := by
      unfold resume
      rw [show (heardState s t).mod.mode = .draining from hmode]
      exact (if_pos hret).symm
    exact exec_heard hs hm rfl (hown _ hr) (hs.2.congr rfl rfl rfl rfl rfl rfl)
  · have hr : heardState s t = resume (heardState s t) := by
      rcases hmode with h | h <;>
      · unfold resume
        rw [show (heardState s t).mod.mode = _ from h]
    exact exec_heard hs hm rfl (hown _ hr) (settled_heardState hs t)

end Sys2Proof.Machine

/-! PROOFS. O49: RESTART clears the work and makes the jobs of the restart pass. -/

namespace Sys2Proof.Machine

-- one theorem at a time: elaborated side by side, they would hold more threads than the check allows
set_option Elab.async false

theorem foldl_keeps {α : Type} {P : State → Prop} {f : State → α → State} (h : ∀ s x, P s → P (f s x)) (l : List α) {s : State}
    (hs : P s) : P (l.foldl f s) := by
  induction l generalizing s with
  | nil => exact hs
  | cons x xs ih => exact ih (h s x hs)

/-! ### The jobs wanted over the recorded frames (R63, R81) -/

/-- The jobs wanted for one recorded frame. -/
def missedOf (s : State) (p : FrameCount → Bool) (f : FrameCount) : List Wanted :=
  match recordedRelease s f with
  | some r => if p f && stillInSlots s f && (applicable s.maps f).usable then missedAt s f r else []
  | none => []

/-- The jobs wanted over all the recorded frames. -/
def missedOver (s : State) (p : FrameCount → Bool) : List Wanted := (recordedFrames s).flatMap (missedOf s p)

theorem isForeground_congr {a b : State} (h : b.sub.table = a.sub.table) : isForeground b = isForeground a := by
  funext x
  rw [isForeground, h]
  rfl

theorem decodeSet_congr {a b : State} (ht : b.sub.table = a.sub.table) (hm : b.maps.current = a.maps.current)
    (hc : b.sub.claims = a.sub.claims) : decodeSet b = decodeSet a := by
  have hin : inCurrentMap b = inCurrentMap a := by
    funext x
    rw [inCurrentMap, hm]
    rfl
  rw [decodeSet, isForeground_congr ht, hin, hc]
  rfl

theorem Marked.decodeSet {a b : State} (h : Marked a b) (hw : Within [.scheduler, .mapUnit] a b) :
    Machine.decodeSet b = Machine.decodeSet a := decodeSet_congr hw.table h.current hw.claims

theorem Marked.applicable {a b : State} (h : Marked a b) (f : FrameCount) :
    Machine.applicable b.maps f = Machine.applicable a.maps f := by
  rw [h.1]
  rfl

theorem missedOf_congr {a b : State} (h : Marked a b) (hw : Within [.scheduler, .mapUnit] a b) (p : FrameCount → Bool) :
    missedOf b p = missedOf a p := by
  funext f
  have hc (x : StreamId) : cursorPast b x f = cursorPast a x f := by
    unfold cursorPast
    rw [cursorFrame_congr hw.cursors]
  unfold missedOf recordedRelease stillInSlots slotOf missedAt
  rw [hw.arrivals, hw.ilm, h.applicable, h.decodeSet hw]
  simp only [hc]

/-- One frame of a creation. -/
def createAt (p : FrameCount → Bool) (s : State) (f : FrameCount) : State :=
  match recordedRelease s f with
  | some r => if p f && stillInSlots s f && (applicable s.maps f).usable then createMissed s f r else s
  | none => s

theorem createOver_eq (s : State) (p : FrameCount → Bool) :
    createOver s p createMissed = (recordedFrames s).foldl (createAt p) s := rfl

theorem createAt_jobs (p : FrameCount → Bool) (s : State) (f : FrameCount) :
    (createAt p s f).jsc.jobs = (missedOf s p f).foldl (addJob s.maps) s.jsc.jobs := by
  unfold createAt missedOf
  split
  · split
    · exact createMissed_jobs s f _
    · rfl
  · rfl

theorem marked_createAt (p : FrameCount → Bool) (s : State) (f : FrameCount) : Marked s (createAt p s f) := by
  unfold createAt
  split
  · exact .ite (fun _ => marked_createMissed s f _) fun _ => .refl s
  · exact .refl s

theorem within_createAt (p : FrameCount → Bool) (s : State) (f : FrameCount) : Within [.scheduler, .mapUnit] s (createAt p s f) := by
  unfold createAt
  split
  · exact .ite (fun _ => within_createMissed s f _) fun _ => .refl _ s
  · exact .refl _ s

theorem createOver_jobs (s : State) (p : FrameCount → Bool) :
    (createOver s p createMissed).jsc.jobs = (missedOver s p).foldl (addJob s.maps) s.jsc.jobs := by
  rw [createOver_eq, missedOver]
  induction recordedFrames s generalizing s with
  | nil => rfl
  | cons f fs ih =>
    rw [List.foldl_cons, ih, (marked_createAt p s f).addJob, missedOf_congr (marked_createAt p s f) (within_createAt p s f),
      createAt_jobs, List.flatMap_cons, List.foldl_append]

theorem mem_missedAt {s : State} {f : FrameCount} {r : Instant} {q : Wanted} (h : q ∈ missedAt s f r) :
    q.frame = f ∧ q.release = r := by
  obtain ⟨p, -, rfl⟩ := List.mem_map.1 h
  exact ⟨rfl, rfl⟩

theorem mem_missedOf {s : State} {p : FrameCount → Bool} {f : FrameCount} {q : Wanted} (h : q ∈ missedOf s p f) :
    q.frame = f ∧ recordedRelease s f = some q.release ∧ stillInSlots s f = true := by
  unfold missedOf at h
  split at h
  · rename_i r hr
    split at h
    · rename_i hc
      simp only [Bool.and_eq_true] at hc
      obtain ⟨h1, h2⟩ := mem_missedAt h
      exact ⟨h1, by rw [h2]; exact hr, hc.1.2⟩
    · cases h
  · cases h

theorem mem_missedOver {s : State} {p : FrameCount → Bool} {q : Wanted} (h : q ∈ missedOver s p) :
    recordedRelease s q.frame = some q.release ∧ stillInSlots s q.frame = true := by
  obtain ⟨f, -, hq⟩ := List.mem_flatMap.1 h
  obtain ⟨h1, h2, h3⟩ := mem_missedOf hq
  rw [h1]
  exact ⟨h2, h3⟩

theorem length_missedOver_le (s : State) (p : FrameCount → Bool) :
    (missedOver s p).length ≤ s.jsc.arrivals.length * (decodeSet s).length := by
  have hone (f : FrameCount) : (missedOf s p f).length ≤ (decodeSet s).length := by
    unfold missedOf
    split
    · split
      · rw [missedAt, List.length_map]
        exact List.length_filter_le _ _
      · exact Nat.zero_le _
    · exact Nat.zero_le _
  rw [missedOver, List.length_flatMap]
  refine (List.sum_le_card_nsmul _ (decodeSet s).length fun n hn => ?_).trans (by simp [recordedFrames])
  obtain ⟨f, -, rfl⟩ := List.mem_map.1 hn
  exact hone f

theorem mem_recordedFrames {s : State} {f : FrameCount} {r : Instant} (h : recordedRelease s f = some r) :
    f ∈ recordedFrames s := by
  obtain ⟨a, ha, -⟩ := Option.map_eq_some_iff.1 h
  have hk : a.1 = f + 7 := by simpa using List.find?_some ha
  refine List.mem_map.2 ⟨a, List.mem_of_find?_eq_some ha, ?_⟩
  rw [hk]
  bv_omega

theorem findSome?_of_only {α β : Type} {h : α → Option β} {a : α} {b : β} {l : List α} (ha : a ∈ l) (hb : h a = some b)
    (hn : ∀ c ∈ l, h c = none ∨ c = a) : l.findSome? h = some b := by
  induction l with
  | nil => cases ha
  | cons c l ih =>
    rw [List.findSome?_cons]
    rcases hn c List.mem_cons_self with hc | rfl
    · rw [hc]
      refine ih ((List.mem_cons.1 ha).resolve_left ?_) fun d hd => hn d (List.mem_cons_of_mem c hd)
      rintro rfl
      rw [hc] at hb
      cases hb
    · rw [hb]

theorem find?_missedAt {s : State} {x : StreamId} {cls : JobClass} {f : FrameCount} {r : Instant}
    (hd : (decodeSet s).find? (fun p => p.1 == x) = some (x, cls)) (hc : cursorPast s x f = false) :
    (missedAt s f r).find? (Wanted.isOf x f) = some ⟨x, cls, f, r⟩ := by
  have hp : (Wanted.isOf x f ∘ fun p : StreamId × JobClass => (⟨p.1, p.2, f, r⟩ : Wanted)) = fun p => p.1 == x := by
    funext p
    simp [Wanted.isOf]
  rw [missedAt, List.find?_map, hp, List.find?_filter]
  have hq : (fun p : StreamId × JobClass => decide ((!cursorPast s p.1 f) = true ∧ (p.1 == x) = true)) = fun p => p.1 == x := by
    funext p
    by_cases h : p.1 = x
    · simp [h, hc]
    · simp [h]
  rw [hq, hd]
  rfl

theorem find?_missedOver {s : State} {p : FrameCount → Bool} {x : StreamId} {cls : JobClass} {f : FrameCount} {r : Instant}
    (hd : (decodeSet s).find? (fun q => q.1 == x) = some (x, cls)) (hc : cursorPast s x f = false)
    (hr : recordedRelease s f = some r) (hs : stillInSlots s f = true) (hm : (applicable s.maps f).usable = true)
    (hp : p f = true) : (missedOver s p).find? (Wanted.isOf x f) = some ⟨x, cls, f, r⟩ := by
  rw [missedOver, List.find?_flatMap]
  refine findSome?_of_only (mem_recordedFrames hr) ?_ fun g _ => ?_
  · rw [missedOf, hr]
    dsimp only
    rw [hp, hs, hm]
    exact find?_missedAt hd hc
  · refine or_iff_not_imp_right.2 fun hg => List.find?_eq_none.2 fun q hq hof => hg ?_
    simp only [Wanted.isOf, Bool.and_eq_true, beq_iff_eq] at hof
    rw [← (mem_missedOf hq).1]
    exact hof.2

/-! ### Contexts started cold (R81) -/

/-- A COLD context with no checkpoint but of a speculative job made now. -/
def StartsCold (n : FrameCount) (c : Context) : Prop :=
  c.warm = false ∧ c.next = n ∧
    (c.checkpoint = .none ∨ c.checkpoint = .pending ∨ ∃ k, c.checkpoint = .held k ∧ k.warm = false)

theorem StartsCold.moved {n : FrameCount} {c d : Context} (h : StartsCold n c) (m : Moved c d) : StartsCold n d := by
  obtain ⟨h1, h2, h3⟩ := h
  refine ⟨m.cold h1, m.next.trans h2, ?_⟩
  rcases m.checkpoint with hk | ⟨-, k, hk, hc⟩
  · rw [hk]; exact h3
  · exact .inr (.inr ⟨k, hk, hc h1⟩)

theorem startsCold_openCheckpoint {n : FrameCount} {s : State} {x : StreamId} (h : StartsCold n (contextOf s x)) (y : StreamId) :
    StartsCold n (contextOf (openCheckpoint s y) x) := by
  obtain ⟨h1, h2, h3⟩ := h
  unfold openCheckpoint
  dsimp only
  split
  · exact ⟨h1, h2, h3⟩
  · show StartsCold n (contextOf (setContext s y _) x)
    rw [contextOf_setContext]
    split
    · subst y
      refine ⟨h1, h2, .inr (.inl ?_)⟩
      rcases h3 with h3 | h3 | ⟨k, h3, -⟩ <;> rw [h3]
    · exact ⟨h1, h2, h3⟩

theorem startsCold_createJob {n : FrameCount} {s : State} {x : StreamId} (h : StartsCold n (contextOf s x)) (y : StreamId)
    (c : JobClass) (f : FrameCount) (r : Instant) : StartsCold n (contextOf (createJob s y c f r) x) := by
  unfold createJob
  dsimp only
  split
  · exact h
  · split
    · exact h
    · show StartsCold n (contextOf (if nextApplies s.maps f = true then openCheckpoint s y else s) x)
      exact keeps_ite (P := fun u => StartsCold n (contextOf u x)) (fun _ => startsCold_openCheckpoint h y) fun _ => h

theorem startsCold_createMissed {n : FrameCount} {s : State} {x : StreamId} (h : StartsCold n (contextOf s x)) (f : FrameCount)
    (r : Instant) : StartsCold n (contextOf (createMissed s f r) x) :=
  foldl_keeps (P := fun u => StartsCold n (contextOf u x)) (fun _ p hu =>
    keeps_ite (P := fun u => StartsCold n (contextOf u x)) (fun _ => hu) fun _ => startsCold_createJob hu p.1 p.2 f r) _ h

theorem startsCold_createOver {n : FrameCount} {s : State} {x : StreamId} (h : StartsCold n (contextOf s x))
    (p : FrameCount → Bool) : StartsCold n (contextOf (createOver s p createMissed) x) := by
  rw [createOver_eq]
  refine foldl_keeps (P := fun u => StartsCold n (contextOf u x)) (fun u f hu => ?_) _ h
  unfold createAt
  split
  · exact keeps_ite (P := fun u => StartsCold n (contextOf u x)) (fun _ => startsCold_createMissed hu f _) fun _ => hu
  · exact hu

/-- The restart pass of a part with no jobs, idle engines and COLD contexts (R81). -/
theorem restartPass_from_cold {s : State} (hc : creating s = true) (hj : s.jsc.jobs = [])
    (hx : ∀ x, (contextOf s x).warm = false ∧ (contextOf s x).checkpoint = .none) :
    (∀ x, StartsCold (contextOf s x).next (contextOf (restartPass s) x)) ∧
    (∀ j ∈ (restartPass s).jsc.jobs, j.discard = false ∧ recordedRelease s j.frame = some j.release ∧
      stillInSlots s j.frame = true ∧ (underWay j = true → j.state = .running ∧ j.started = s.now ∧ j.source = .cold)) ∧
    (s.jsc.arrivals.length * (decodeSet s).length ≤ 32 → ∀ x cls f r n,
      (decodeSet s).find? (fun p => p.1 == x) = some (x, cls) → recordedRelease s f = some r → stillInSlots s f = true →
      (applicable s.maps f).usable = true → (applicable s.maps f).entryOf x = some n → cursorPast s x f = false →
      ∃ j, jobOf (restartPass s) x f = some j ∧ j.plan = plannedJob s.maps ⟨x, cls, f, r⟩ n) := by
  let made := createOver s (fun _ => true) createMissed
  have hjobs : made.jsc.jobs = (missedOver s (fun _ => true)).foldl (addJob s.maps) [] := by
    rw [← hj]
    exact createOver_jobs s _
  have hr : restartPass s = settleJobs made := if_pos hc
  have hi : Issued made (restartPass s) := by
    rw [hr]
    exact issued_settleJobs made
  have hnow : made.now = s.now := (within_createOver s _ createMissed fun s f r => within_createMissed s f r).now
  have hcold (x : StreamId) : StartsCold (contextOf s x).next (contextOf made x) :=
    startsCold_createOver ⟨(hx x).1, rfl, .inl (hx x).2⟩ _
  refine ⟨fun x => (hcold x).moved (hi.contexts x), fun k hk => ?_, fun hlen x cls f r n hd hrel hst hus hen hcur => ?_⟩
  · obtain ⟨g, hg, hgiven⟩ := hi.jobs
    rw [hg] at hk
    obtain ⟨j, hjm, rfl⟩ := List.mem_map.1 hk
    have hgj := hgiven j hjm
    rw [hjobs] at hjm
    rcases mem_foldl_addJob hjm with hnil | ⟨q, hq, e, -, hpl, hnot⟩
    · cases hnil
    obtain ⟨h1, h2⟩ := mem_missedOver hq
    have hpk : (g j).plan = plannedJob s.maps q e := hgj.plan.trans hpl
    have hframe : (g j).frame = q.frame := (congrArg Job.frame hpk :)
    have hrelease : (g j).release = q.release := (congrArg Job.release hpk :)
    refine ⟨(congrArg Job.discard hpk :), by rw [hframe, hrelease]; exact h1, by rw [hframe]; exact h2, fun hu => ?_⟩
    obtain ⟨h3, h4, h5⟩ := hgj.begun hu hnot
    exact ⟨h3, h4.trans hnow, h5 (hcold j.stream).1⟩
  · have hroom : ([] : List Job).length + (missedOver s (fun _ => true)).length ≤ 32 := by
      rw [List.length_nil, Nat.zero_add]
      exact (length_missedOver_le s _).trans hlen
    obtain ⟨j, hfj, hpl⟩ := find?_foldl_addJob hroom (find?_missedOver hd hcur hrel hst hus rfl) rfl hen
    have hov : jobOf made x f = some j := by
      rw [jobOf, hjobs]
      exact hfj
    have hmap := hi.jobOf x f
    rw [hov] at hmap
    obtain ⟨k, hk, hkp⟩ := Option.map_eq_some_iff.1 hmap
    exact ⟨k, hk, hkp.trans hpl⟩

/-! ### RESTART (R179) -/

/-- Everything cleared, before the link listens again. -/
def stopped (s : State) : State :=
  settleClaims (restartMaps (clearQueue (emptyStore (stopEngines (setMode s .restarting))) isStatusEntry))

theorem restartWork_eq (s : State) : restartWork s = restartPass (relisten (stopped s)) := rfl

theorem within_stopped (s : State) : Within [.store, .queue, .mapUnit, .claims] (stopEngines (setMode s .restarting)) (stopped s) :=
  (((within_emptyStore _).mono.trans (within_clearQueue _ _).mono).trans
    (within_setMaps (clearQueue (emptyStore (stopEngines (setMode s .restarting))) isStatusEntry) _).mono).trans
    (within_settleClaims _).mono

theorem maps_stopped (s : State) : (stopped s).maps =
    { s.maps with marker := none, wantCurrent := false, wantNext := false, holdOff := none } := by
  have hw : Within [.store, .queue] (stopEngines (setMode s .restarting))
      (clearQueue (emptyStore (stopEngines (setMode s .restarting))) isStatusEntry) :=
    (within_emptyStore _).mono.trans (within_clearQueue _ _).mono
  rw [stopped, (within_settleClaims _).maps]
  show ({ (clearQueue _ isStatusEntry).maps with marker := none, wantCurrent := false, wantNext := false, holdOff := none } : MapUnit) = _
  rw [hw.maps]
  rfl

theorem records_stopped (s : State) : (stopped s).pst.records = [] := by
  have h := clearQueue_records_sublist (emptyStore (stopEngines (setMode s .restarting))) isStatusEntry
  rw [emptyStore_records] at h
  rw [stopped, (within_settleClaims _).records]
  exact List.sublist_nil.1 h

theorem queue_stopped {s : State} {e : Entry} (h : e ∈ (stopped s).lnk.queue) : e.kind = .status := by
  rw [stopped, (within_settleClaims _).queue] at h
  have := (clearQueue_queue_sublist _ isStatusEntry).subset h
  simpa [isStatusEntry] using (List.mem_filter.1 this).2

theorem claimless_stopped (s : State) : Claimless (stopped s) :=
  claimless_of_mode (settled_settleClaims _) (by rw [show (stopped s).mod.mode = .restarting from (within_stopped s).mode]; decide)

theorem relisten_joined {s : State} (hc : Claimless s) (h : s.lnk.state = .joined) : relisten s =
    { s with
      lnk := { s.lnk with state := .listening, joinTimer := some (s.now + 216000000), recoveryTimer := none,
                          receivingFrom := s.now },
      sub := { s.sub with armed := true } } := by
  rw [← enterListening_eq hc, relisten, h]

theorem relisten_listening {s : State} (h : s.lnk.state = .listening) : relisten s =
    { s with lnk := { s.lnk with joinTimer := some (s.now + 216000000) }, sub := { s.sub with armed := true } } := by
  rw [relisten, h]
  rfl

theorem relisten_else {s : State} (hj : s.lnk.state ≠ .joined) (hl : s.lnk.state ≠ .listening) : relisten s = s := by
  unfold relisten
  split
  · exact absurd ‹_› hj
  · exact absurd ‹_› hl
  · rfl
  · rfl

/-- What `relisten` does to a part without claims. -/
theorem relisten_brings {s : State} (hc : Claimless s) :
    Within [.line, .table] s (relisten s) ∧ (relisten s).sub.table = s.sub.table ∧
    (s.lnk.state = .joined ∨ s.lnk.state = .listening → (relisten s).lnk.state = .listening ∧
      (relisten s).lnk.joinTimer = some (s.now + 216000000) ∧ (relisten s).sub.armed = true) ∧
    (s.lnk.state = .fault → (relisten s).lnk.state = .fault ∧ (relisten s).lnk.recoveryTimer = s.lnk.recoveryTimer) ∧
    (relisten s).lnk.attempt = s.lnk.attempt ∧ (relisten s).lnk.faultRecord = s.lnk.faultRecord := by
  have harm (u : State) : Within [.line, .table] u { u with sub := { u.sub with armed := true } } := (within_armAdoption u).mono
  have hset (u : State) (l : Link) (hq : l.queue = u.lnk.queue) (hn : l.nextUid = u.lnk.nextUid) :
      Within [.line, .table] u (setLink u l) := (within_line (s := u) (l := l) hq hn).mono
  by_cases hj : s.lnk.state = .joined
  · rw [relisten_joined hc hj]
    let l : Link := { s.lnk with
      state := .listening, joinTimer := some (s.now + 216000000), recoveryTimer := none, receivingFrom := s.now }
    exact ⟨(hset s l rfl rfl).trans (harm (setLink s l)), rfl, fun _ => ⟨rfl, rfl, rfl⟩,
      fun h => by (rw [hj] at h; cases h), rfl, rfl⟩
  · by_cases hl : s.lnk.state = .listening
    · rw [relisten_listening hl]
      let l : Link := { s.lnk with joinTimer := some (s.now + 216000000) }
      exact ⟨(hset s l rfl rfl).trans (harm (setLink s l)), rfl, fun _ => ⟨hl, rfl, rfl⟩,
        fun h => by (rw [hl] at h; cases h), rfl, rfl⟩
    · rw [relisten_else hj hl]
      exact ⟨.refl _ s, rfl, fun h => (h.elim hj hl).elim, fun h => ⟨h, rfl⟩, rfl, rfl⟩

theorem Within.lnk {ps : List Part} {a b : State} (h : Within ps a b) (hq : Part.queue ∉ ps := by decide)
    (hl : Part.line ∉ ps := by decide) : b.lnk = a.lnk := by
  obtain ⟨h1, h2⟩ : b.lnk.queue = a.lnk.queue ∧ b.lnk.nextUid = a.lnk.nextUid := h _ hq
  have h3 : { b.lnk with queue := a.lnk.queue, nextUid := a.lnk.nextUid } = a.lnk := h.line hl
  rw [← h1, ← h2] at h3
  exact h3

/-- Settles O49: the restart pass acts on a part that has been cleared, so that all its jobs are new. -/
theorem restartClears : Obligations.RestartClears := by
  intro s t m hs hm ha
  refine ⟨fun hmode => ?_, fun hmode => ?_⟩
  · let b := heardState s t
    let c := relisten (stopped b)
    have hst := within_stopped b
    have hcl := claimless_stopped b
    obtain ⟨hwr, htab, hjoin, hfault, hatt, hrecord⟩ := relisten_brings hcl
    have hbc : Within [.store, .queue, .mapUnit, .claims, .line, .table] (stopEngines (setMode b .restarting)) c :=
      hst.mono.trans hwr.mono
    have hu : (if addressed b m = true then restart b else b) = restartPass c := by
      rw [if_pos (show addressed b m = true from ha), restart, if_neg (show b.mod.mode ≠ .draining from hmode)]
      rfl
    have hcm : c.mod.mode = .restarting := hbc.mode
    have hw := within_restartPass c
    have hmk := marked_restartPass c
    have hset : Settled (restartPass c) := ((hcl.within hwr).within hw).settled
    have hlnk : (restartPass c).lnk = c.lnk := hw.lnk
    have hjobs0 : c.jsc.jobs = [] := hbc.jobs
    have hidle (e : EngineId) : engineOf c e = .reset := by
      rw [engineOf, hbc.engines]
      exact stopEngines_idle (setMode b .restarting) e
    have hctx (x : StreamId) : contextOf c x = { coldContext (contextOf s x) with checkpoint := .none } := by
      rw [contextOf, hbc.contexts]
      exact contextOf_stopEngines (setMode b .restarting) x
    have harr : c.jsc.arrivals = s.jsc.arrivals := hbc.arrivals
    have hrel (f : FrameCount) : recordedRelease c f = recordedRelease s f := by unfold recordedRelease; rw [harr]
    have hstill (f : FrameCount) : stillInSlots c f = stillInSlots s f := by
      unfold stillInSlots slotOf
      rw [hbc.ilm]
      rfl
    have hmaps : c.maps = { s.maps with marker := none, wantCurrent := false, wantNext := false, holdOff := none } :=
      hwr.maps.trans (maps_stopped b)
    have happ (f : FrameCount) : applicable c.maps f = applicable s.maps f := by rw [hmaps]; rfl
    have hnow : c.now = max s.now t := hbc.now
    have hdec : decodeSet (restartPass c) = decodeSet c := hmk.decodeSet hw
    obtain ⟨hcold, hjobs, hmade⟩ := restartPass_from_cold (s := c) (by rw [creating, hcm]; rfl) hjobs0
      (fun x => by rw [hctx]; exact ⟨rfl, rfl⟩)
    have hsound : JobsSound (restartPass c) :=
      (acts_restartPass c).keeps act_keeps_jobsSound (jobsSound_of_none hjobs0 fun e => by rw [hidle]; rfl)
    refine ⟨_, exec_heard hs hm rfl hu hset, hw.mode.trans hcm, hw.returnMode.trans hbc.returnMode,
      hw.records.trans (hwr.records.trans (records_stopped b)), fun e he => ?_, ((hcl.within hwr).within hw).1,
      fun x => ?_, fun j hj => ?_, fun e x f he => ?_, fun hlen x cls f release n hd hrl hs' hus hen hcur => ?_, ?_⟩
    · rw [hw.queue, hwr.queue] at he
      exact queue_stopped he
    · have hx := hcold x
      rw [hctx] at hx
      exact hx
    · obtain ⟨h1, h2, h3, h4⟩ := hjobs j hj
      rw [hrel] at h2
      rw [hstill] at h3
      rw [hnow] at h4
      exact ⟨h1, h2, h3, h4⟩
    · obtain ⟨j, hj, h1, h2, h3, h4⟩ := (hsound.2.2.1 e x f).1 he
      exact ⟨j, hj, h1, h2, ((hjobs j hj).2.2.2 h3).1, h4⟩
    · rw [hdec] at hd hlen
      have hcur' : cursorPast c x f = false := by
        rw [← hcur]
        unfold cursorPast
        rw [cursorFrame_congr hbc.cursors]
        rfl
      rw [← happ] at hus hen
      obtain ⟨j, hj, hpl⟩ := hmade (by rw [harr]; exact hlen) x cls f release n hd (by rw [hrel]; exact hrl) (by rw [hstill]; exact hs')
        hus hen hcur'
      exact ⟨j, hj, (congrArg Job.cls hpl :), (congrArg Job.changeCount hpl :).trans (congrArg MuxMap.count (happ f)),
        (congrArg Job.start hpl :), (congrArg Job.grains hpl :), (congrArg Job.profile hpl :), (congrArg Job.kind hpl :),
        (congrArg Job.release hpl :)⟩
    · have hmm : (restartPass c).maps = { c.maps with marker := (restartPass c).maps.marker } := hmk.1
      rw [hmaps] at hmm
      refine ⟨by rw [hmm], by rw [hmm], by rw [hmm], by rw [hmm], by rw [hmm], by rw [hmm],
        hw.table.trans (htab.trans hst.table), fun hl => ?_, fun hf => ?_, by rw [hlnk]; exact hatt.trans hst.attempt,
        by rw [hlnk]; exact hrecord.trans hst.faultRecord, ?_⟩
      · rw [hlnk, hw.armed]
        obtain ⟨h1, h2, h3⟩ := hjoin (by rw [hst.linkState]; exact hl)
        exact ⟨h1, h2.trans (by rw [hst.now]; rfl), h3⟩
      · rw [hlnk]
        obtain ⟨h1, h2⟩ := hfault (by rw [hst.linkState]; exact hf)
        have hrt : (stopped b).lnk.recoveryTimer = s.lnk.recoveryTimer := (congrArg Link.recoveryTimer hst.line :)
        exact ⟨h1, h2.trans hrt⟩
      · have hwork : restartPass c = restart b := by
          rw [restart, if_neg (show b.mod.mode ≠ .draining from hmode)]
          rfl
        rw [hwork]
        exact (within_heardState s t).mono.trans (within_restart b).mono
  · refine exec_heard hs hm rfl ?_ (settled_heardState hs t)
    rw [if_pos (show addressed (heardState s t) m = true from ha)]
    exact if_pos hmode

end Sys2Proof.Machine

/-! PROOFS. O9: the 7,200th payload word files the frame and has its jobs made and issued. -/

namespace Sys2Proof.Machine

-- one theorem at a time: elaborated side by side, they would hold more threads than the check allows
set_option Elab.async false

/-! ### What an issue round deals out (R61, R65) -/

/-- The jobs of `b` are those of `a`, of which some have begun. -/
def Dealt (a b : State) : Prop :=
  ∃ g : Job → Job, b.jsc.jobs = a.jsc.jobs.map g ∧
    ∀ j ∈ a.jsc.jobs, (g j).plan = j.plan ∧ (g j = j ∨ (g j).state = .running)

theorem Dealt.of_eq {a b : State} (h : b.jsc.jobs = a.jsc.jobs) : Dealt a b :=
  ⟨id, by rw [h, List.map_id], fun _ _ => ⟨rfl, .inl rfl⟩⟩

theorem Dealt.trans {a b c : State} (h : Dealt a b) (k : Dealt b c) : Dealt a c := by
  obtain ⟨g, hg, hgj⟩ := h
  obtain ⟨f, hf, hfj⟩ := k
  refine ⟨f ∘ g, by rw [hf, hg, List.map_map], fun j hj => ?_⟩
  obtain ⟨h1, h2⟩ := hgj j hj
  obtain ⟨k1, k2⟩ := hfj (g j) (by rw [hg]; exact List.mem_map_of_mem hj)
  refine ⟨k1.trans h1, ?_⟩
  rcases k2 with k2 | k2
  · exact h2.imp k2.trans fun h2 => by rw [Function.comp_apply, k2]; exact h2
  · exact .inr k2

theorem dealt_given (s : State) (round : List EngineId) (j : Job) (e : EngineId) : Dealt s (given s round j e) := by
  refine ⟨_, rfl, fun k _ => ?_⟩
  split
  · exact ⟨rfl, .inr rfl⟩
  · exact ⟨rfl, .inl rfl⟩

theorem dealt_assign (n : Nat) (s : State) (round : List EngineId) : Dealt s (assign n s round).1 := by
  induction n generalizing s round with
  | zero => exact .of_eq rfl
  | succ n ih =>
    cases hr : (readyJobs s).head? with
    | none => rw [assign_none_ready (List.head?_eq_none_iff.1 hr)]; exact .of_eq rfl
    | some j =>
      rw [assign_succ hr]
      split
      · exact .of_eq rfl
      · exact (dealt_given s round j _).trans (ih _ _)

theorem dealt_issueRound (s : State) : Dealt s (issueRound s) := by
  refine keeps_ite (P := Dealt s) (fun _ => .of_eq rfl) fun _ => ?_
  have hr := (issued_assign (n := 3) (s := s) (round := []) fun _ he => by cases he).2
  exact (dealt_assign 3 s []).trans (.of_eq (moves_foldl_beginMoves hr).jobs)

/-! ### No READY job beside an IDLE engine (R65) -/

/-- A READY job is the only one of its stream that does not wait. -/
def LoneReady (s : State) : Prop :=
  ∀ j ∈ s.jsc.jobs, ∀ k ∈ s.jsc.jobs, j.state = .ready → k.stream = j.stream → k = j ∨ k.state = .waiting

/-- The engines that are IDLE. -/
def idleEngines (s : State) : Finset EngineId := Finset.univ.filter fun e => (engineOf s e).job = none

theorem mem_idleEngines {s : State} {e : EngineId} : e ∈ idleEngines s ↔ (engineOf s e).job = none := by
  simp [idleEngines]

theorem underWay_ready {j : Job} (h : j.state = .ready) : underWay j = false := by simp [underWay, h]
theorem underWay_waiting {j : Job} (h : j.state = .waiting) : underWay j = false := by simp [underWay, h]

theorem LoneReady.none_ready {s : State} (h : LoneReady s) (hr : readyJobs s = []) : ∀ j ∈ s.jsc.jobs, j.state ≠ .ready := by
  intro j hj hjr
  have hnot : j ∉ readyJobs s := by rw [hr]; exact List.not_mem_nil
  rw [readyJobs, mem_sortBy, List.mem_filter] at hnot
  refine hnot ⟨hj, ?_⟩
  rw [Bool.and_eq_true, beq_iff_eq, Bool.not_eq_true', ← Bool.not_eq_true, List.any_eq_true]
  refine ⟨hjr, fun ⟨o, ho, hk⟩ => ?_⟩
  rw [Bool.and_eq_true, beq_iff_eq] at hk
  rcases h j hj o ho hjr hk.1 with rfl | hw
  · rw [underWay_ready hjr] at hk
    cases hk.2
  · rw [underWay_waiting hw] at hk
    cases hk.2

theorem chooseEngine_none {s : State} {x : StreamId} (h : chooseEngine s x = none) : idleEngines s = ∅ := by
  unfold chooseEngine at h
  dsimp only at h
  split at h
  · cases h
  · rw [List.head?_eq_none_iff, List.filter_eq_nil_iff] at h
    refine Finset.eq_empty_of_forall_notMem fun e he => h e (List.mem_finRange e) ?_
    rw [isIdle, mem_idleEngines.1 he]
    rfl

theorem idleEngines_given {s : State} {round : List EngineId} {j : Job} {e : EngineId} (he : (engineOf s e).job = none) :
    (idleEngines (given s round j e)).card < (idleEngines s).card := by
  have hwork (d : EngineId) : engineOf (given s round j e) d =
      if d = e then { engineOf s e with job := some (j.stream, j.frame), dropAtEnd := false } else engineOf s d :=
    engineOf_setEngine _ e d _
  refine Finset.card_lt_card (Finset.ssubset_iff_of_subset ?_ |>.2 ⟨e, mem_idleEngines.2 he, ?_⟩)
  · intro d hd
    rw [mem_idleEngines, hwork] at hd
    split at hd
    · cases hd
    · exact mem_idleEngines.2 hd
  · rw [mem_idleEngines, hwork, if_pos rfl]
    simp

theorem LoneReady.given {s : State} (h : LoneReady s) {j : Job} (hj : j ∈ readyJobs s) (round : List EngineId) (e : EngineId) :
    LoneReady (given s round j e) := by
  obtain ⟨hjm, hjr, -⟩ := of_mem_readyJobs hj
  intro k hk l hl hkr hs
  obtain ⟨k0, hk0, rfl⟩ := List.mem_map.1 hk
  obtain ⟨l0, hl0, rfl⟩ := List.mem_map.1 hl
  split at hkr
  · cases hkr
  rename_i hkn
  rw [if_neg hkn] at hs ⊢
  by_cases hlk : (l0.stream == j.stream && l0.frame == j.frame) = true
  · rw [if_pos hlk] at hs
    rw [Bool.and_eq_true, beq_iff_eq, beq_iff_eq] at hlk
    rcases h j hjm k0 hk0 hjr (hs.symm.trans hlk.1) with rfl | hw
    · simp at hkn
    · rw [hkr] at hw
      cases hw
  · rw [if_neg hlk] at hs ⊢
    exact h k0 hk0 l0 hl0 hkr hs

theorem assign_exhausts {n : Nat} {s : State} {round : List EngineId} (h : LoneReady s) (hn : (idleEngines s).card ≤ n) :
    (∀ j ∈ (assign n s round).1.jsc.jobs, j.state ≠ .ready) ∨ idleEngines (assign n s round).1 = ∅ := by
  induction n generalizing s round with
  | zero => exact .inr (Finset.card_eq_zero.1 (Nat.le_zero.1 hn))
  | succ n ih =>
    cases hr : (readyJobs s).head? with
    | none =>
      have hnone := List.head?_eq_none_iff.1 hr
      rw [assign_none_ready hnone]
      exact .inl (h.none_ready hnone)
    | some j =>
      rw [assign_succ hr]
      split
      · exact .inr (chooseEngine_none ‹_›)
      · rename_i e he
        have hlt := idleEngines_given (s := s) (round := round) (j := j) (idle_of_chooseEngine he)
        exact ih (h.given (List.mem_of_head? hr) round e) (by omega)

/-- After an issue round no job is READY while an engine is IDLE. -/
theorem issueRound_exhausts {s : State} (h : LoneReady s) (hd : s.mod.mode ≠ .draining) (hq : s.mod.mode ≠ .quiesced)
    (he : ∃ e, (engineOf (issueRound s) e).job = none) : ∀ j ∈ (issueRound s).jsc.jobs, j.state ≠ .ready := by
  have heq : issueRound s = (assign 3 s []).2.foldl (beginMoves (assign 3 s []).2) (assign 3 s []).1 :=
    if_neg fun hm => hm.elim hd hq
  have hm := moves_foldl_beginMoves (round := (assign 3 s []).2)
    (issued_assign (n := 3) (s := s) (round := []) fun _ he => by cases he).2
  rw [← heq] at hm
  rw [hm.jobs]
  have hcard : (idleEngines s).card ≤ 3 := (Finset.card_le_univ _).trans (by simp)
  refine (assign_exhausts (round := []) h hcard).resolve_right fun hempty => ?_
  obtain ⟨e, he⟩ := he
  rw [hm.work] at he
  have := mem_idleEngines.2 he
  rw [hempty] at this
  cases this

/-! ### The test of readiness (R61) -/

theorem readiness_waiting {js : List Job} {j : Job} (h : readiness js j = .waiting) :
    ∃ o ∈ js, o.stream = j.stream ∧ o.frame ≠ j.frame := by
  unfold readiness at h
  split at h
  · rename_i hc
    obtain ⟨o, ho, hk⟩ := List.any_eq_true.1 hc
    simp only [Bool.and_eq_true, beq_iff_eq, bne_iff_ne] at hk
    exact ⟨o, ho, hk.1.1, hk.1.2⟩
  · cases h

theorem readiness_ready {js : List Job} {j : Job} (h : readiness js j = .ready) {o : Job} (ho : o ∈ js)
    (hs : o.stream = j.stream) (hf : o.frame ≠ j.frame) : earlierThan o.frame j.frame = false ∧ underWay o = false := by
  unfold readiness at h
  split at h
  · cases h
  · rename_i hc
    have hn := fun hk => hc (List.any_eq_true.2 ⟨o, ho, hk⟩)
    simpa [hs, hf] using hn

theorem readiness_of_earlier {js : List Job} {j o : Job} (ho : o ∈ js) (hs : o.stream = j.stream) (hf : o.frame ≠ j.frame)
    (he : earlierThan o.frame j.frame = true) : readiness js j = .waiting :=
  if_pos (List.any_eq_true.2 ⟨o, ho, by simp [hs, hf, he]⟩)

/-- Of two frames one is earlier. -/
theorem earlierThan_of_not {a b : FrameCount} (hne : a ≠ b) (h : earlierThan a b = false) : earlierThan b a = true := by
  unfold earlierThan frameDist at *
  rw [decide_eq_false_iff_not] at h
  rw [decide_eq_true_iff]
  bv_omega

/-- The stream and frame of the jobs are each held once. -/
abbrev JobsApart (s : State) : Prop := (s.jsc.jobs.map (fun j => (j.stream, j.frame))).Nodup

theorem JobsApart.eq {s : State} (h : JobsApart s) {j k : Job} (hj : j ∈ s.jsc.jobs) (hk : k ∈ s.jsc.jobs)
    (hs : j.stream = k.stream) (hf : j.frame = k.frame) : j = k :=
  List.inj_on_of_nodup_map h hj hk (Prod.ext hs hf)

theorem loneReady_retest {s : State} (h : JobsApart s) : LoneReady (retest s) := by
  intro j hj k hk hjr hs
  obtain ⟨j0, hj0, rfl⟩ := List.mem_map.1 hj
  obtain ⟨k0, hk0, rfl⟩ := List.mem_map.1 hk
  by_cases hju : underWay j0 = true
  · rw [if_pos hju] at hjr
    rw [underWay_ready hjr] at hju
    cases hju
  rw [if_neg hju] at hjr hs ⊢
  have hst : k0.stream = j0.stream := by split at hs <;> exact hs
  by_cases hf : k0.frame = j0.frame
  · obtain rfl := h.eq hk0 hj0 hst hf
    rw [if_neg hju]
    exact .inl rfl
  · obtain ⟨h1, h2⟩ := readiness_ready hjr hk0 hst hf
    rw [if_neg (by rw [h2]; simp)]
    exact .inr (readiness_of_earlier hj0 hst.symm (Ne.symm hf) (earlierThan_of_not hf h1))

/-- A job that waits after the table has been settled waits behind another of its stream. -/
theorem settleJobs_waiting {s : State} {j : Job} (h : j ∈ (settleJobs s).jsc.jobs) (hw : j.state = .waiting) :
    ∃ k ∈ (settleJobs s).jsc.jobs, k.stream = j.stream ∧ k.frame ≠ j.frame := by
  obtain ⟨g, hg, hgiven⟩ := (issued_settleJobs s).jobs
  obtain ⟨d, hd, hdealt⟩ := dealt_issueRound (retest s)
  have hj : j ∈ (issueRound (retest s)).jsc.jobs := h
  rw [hd] at hj
  obtain ⟨j1, hj1, rfl⟩ := List.mem_map.1 hj
  obtain ⟨-, hsame | hrun⟩ := hdealt j1 hj1
  · rw [hsame] at hw ⊢
    obtain ⟨j0, hj0, rfl⟩ := List.mem_map.1 hj1
    split at hw
    · rw [underWay_waiting hw] at *
      contradiction
    · obtain ⟨o, ho, hs, hf⟩ := readiness_waiting hw
      rename_i hu
      rw [if_neg hu]
      exact ⟨g o, by rw [hg]; exact List.mem_map_of_mem ho, (hgiven o ho).stream.trans hs, by rw [(hgiven o ho).frame]; exact hf⟩
  · rw [hw] at hrun
    cases hrun

/-! ### A payload end (R19, R47, R49, R58) -/

theorem mem_pushLast {α : Type} (n : Nat) (xs : List α) (x : α) : x ∈ pushLast (n + 1) xs x := by
  unfold pushLast
  dsimp only
  rw [List.drop_append_of_le_length (by simp)]
  exact List.mem_append_right _ (List.mem_singleton.2 rfl)

/-- The frame is filed and its release instant fixed; the jobs are still to come. -/
def filed (s : State) (received : Bool) : State :=
  setTracker (setIlm s (fileSlot s.ilm s.ftr.count received))
    { s.ftr with releases := s.ftr.releases ++ [(s.ftr.count - 7, s.now + 72000000)] }

theorem whole_fileSlot (m : Ilm) (f : FrameCount) (received : Bool) :
    (fileSlot m f received).slots.get (slotIndex f) =
      { tag := some f, received := received, whole := decide (7 ≤ m.fillRun),
        cells := if received then gathered m.fill else [] } := by
  have hrun : (min 8 (m.fillRun + 1) == 8) = decide (7 ≤ m.fillRun) := by
    rw [Bool.eq_iff_iff, beq_iff_eq, decide_eq_true_iff]
    omega
  rw [fileSlot, get_set_table, if_pos rfl, hrun]

theorem other_fileSlot (m : Ilm) {f : FrameCount} (received : Bool) {n : Fin 8} (h : n ≠ slotIndex f) :
    (fileSlot m f received).slots.get n = m.slots.get n := by
  rw [fileSlot, get_set_table, if_neg h]

theorem issuePayloadEnd_eq (s : State) (received : Bool) :
    issuePayloadEnd s received = jobsAtPayloadEnd (filed s received) s.ftr.count (decide (7 ≤ s.ilm.fillRun)) := by
  have hw : (slotOf (filed s received) s.ftr.count).whole = decide (7 ≤ s.ilm.fillRun) :=
    congrArg Slot.whole (whole_fileSlot s.ilm s.ftr.count received)
  rw [← hw]
  rfl

/-- The arrival is recorded and the jobs that have expired are gone. -/
def arrived (s : State) (g : FrameCount) : State := noteArrival (expire s) g

/-- The jobs of the frame have been made, or the frame has been deferred. -/
def jobsMade (s : State) (g : FrameCount) (whole : Bool) : State :=
  if whole && creating s then createOrDefer (arrived s g) (g - 7) else arrived s g

theorem jobsAtPayloadEnd_eq (s : State) (g : FrameCount) (whole : Bool) :
    jobsAtPayloadEnd s g whole = settleJobs (jobsMade s g whole) := rfl

theorem within_jobsMade (s : State) (g : FrameCount) (whole : Bool) :
    Within [.scheduler, .mapUnit] (arrived s g) (jobsMade s g whole) :=
  .ite (fun _ => within_createOrDefer _ _) fun _ => .refl _ _

theorem arrivals_jobsAtPayloadEnd (s : State) (g : FrameCount) (whole : Bool) :
    (g, s.now) ∈ (jobsAtPayloadEnd s g whole).jsc.arrivals := by
  rw [jobsAtPayloadEnd_eq, (issued_settleJobs _).scope.arrivals, (within_jobsMade s g whole).arrivals]
  exact mem_pushLast 7 _ _

/-- What a payload end does to slots, tracker and arrival record. -/
theorem issuePayloadEnd_files (s : State) (received : Bool) :
    (issuePayloadEnd s received).ilm = fileSlot s.ilm s.ftr.count received ∧
    (issuePayloadEnd s received).ftr =
      { s.ftr with releases := s.ftr.releases ++ [(s.ftr.count - 7, s.now + 72000000)] } ∧
    (s.ftr.count, s.now) ∈ (issuePayloadEnd s received).jsc.arrivals := by
  rw [issuePayloadEnd_eq]
  have hw := within_jobsAtPayloadEnd (filed s received) s.ftr.count (decide (7 ≤ s.ilm.fillRun))
  exact ⟨hw.ilm, hw.ftr, arrivals_jobsAtPayloadEnd (filed s received) s.ftr.count _⟩

theorem maps_defer (s : State) (f : FrameCount) :
    if nextApplies s.maps f then (defer s f).maps.next.deferred = some (s.maps.next.deferred.getD f)
    else (∀ o, s.maps.outgoing = some o → earlierThan f o.changeFrame = false) →
      (defer s f).maps.current.deferred = some (s.maps.current.deferred.getD f) := by
  unfold defer
  dsimp only
  split
  · rfl
  · intro ho
    split
    · rename_i o h
      rw [if_neg (by rw [ho o h]; simp)]
    · rfl

theorem jobs_defer (s : State) (f : FrameCount) : (defer s f).jsc.jobs = s.jsc.jobs := by
  unfold defer
  dsimp only
  split
  · rfl
  · split
    · split <;> rfl
    · rfl

section

variable {s : State} {g : FrameCount} {whole : Bool}

theorem jobsMade_creates (hw : whole = true) (hc : creating s = true) (hu : (applicable s.maps (g - 7)).usable = true) :
    jobsMade s g whole = createFrame (arrived s g) (g - 7) (s.now + 72000000) := by
  rw [jobsMade, hw, hc]
  exact if_pos hu

theorem jobsMade_defers (hw : whole = true) (hc : creating s = true) (hu : (applicable s.maps (g - 7)).usable = false) :
    jobsMade s g whole = defer (arrived s g) (g - 7) := by
  have hn : ¬(applicable (arrived s g).maps (g - 7)).usable = true := by
    rw [show (applicable (arrived s g).maps (g - 7)).usable = false from hu]
    simp
  rw [jobsMade, hw, hc]
  exact if_neg hn

theorem jobsMade_idle (h : ¬(whole = true ∧ creating s = true)) : jobsMade s g whole = arrived s g :=
  if_neg (by rw [Bool.and_eq_true]; exact h)

/-- No job is made where none is to be. -/
theorem jobsMade_none (h : ¬(whole = true ∧ creating s = true) ∨ (applicable s.maps (g - 7)).usable = false) :
    (jobsMade s g whole).jsc.jobs = (arrived s g).jsc.jobs := by
  by_cases hc : whole = true ∧ creating s = true
  · rw [jobsMade_defers hc.1 hc.2 (h.resolve_left fun hn => hn hc), jobs_defer]
  · rw [jobsMade_idle hc]

/-- A job not under way after the creation is of a frame still in the slots. -/
theorem still_of_jobsMade (hst : whole = true → stillInSlots s (g - 7) = true) {j : Job} (hj : j ∈ (jobsMade s g whole).jsc.jobs)
    (hu : underWay j = false) : stillInSlots s j.frame = true := by
  have hold {j : Job} (hj : j ∈ (arrived s g).jsc.jobs) (hu : underWay j = false) : stillInSlots s j.frame = true := by
    have := (List.mem_filter.1 hj).2
    rwa [hu] at this
  by_cases hc : whole = true ∧ creating s = true
  · by_cases hus : (applicable s.maps (g - 7)).usable = true
    · rw [jobsMade_creates hc.1 hc.2 hus, createFrame_jobs] at hj
      rcases mem_foldl_addJob hj with hj | ⟨q, hq, e, -, hpl, -⟩
      · exact hold hj hu
      · obtain ⟨p, -, rfl⟩ := List.mem_map.1 hq
        rw [show j.frame = g - 7 from (congrArg Job.frame hpl :)]
        exact hst hc.1
    · rw [jobsMade_none (.inr (by simpa using hus))] at hj
      exact hold hj hu
  · rw [jobsMade_none (.inl hc)] at hj
    exact hold hj hu

/-- The job made for a stream of the decode set that is present. -/
theorem job_of_jobsMade (hw : whole = true) (hc : creating s = true) (hu : (applicable s.maps (g - 7)).usable = true)
    (hroom : s.jsc.jobs.length + (decodeSet s).length ≤ 32) {x : StreamId} {cls : JobClass} {e : MapEntry}
    (hd : (decodeSet s).find? (fun p => p.1 == x) = some (x, cls)) (he : (applicable s.maps (g - 7)).entryOf x = some e)
    (hn : jobOf s x (g - 7) = none) :
    ∃ j, jobOf (jobsMade s g whole) x (g - 7) = some j ∧
      j.plan = plannedJob s.maps ⟨x, cls, g - 7, s.now + 72000000⟩ e := by
  rw [jobsMade_creates hw hc hu, jobOf, createFrame_jobs]
  have hlen : ((arrived s g).jsc.jobs).length ≤ s.jsc.jobs.length := List.length_filter_le _ _
  have hnone : (arrived s g).jsc.jobs.find? (fun j => j.stream == x && j.frame == g - 7) = none :=
    List.find?_eq_none.2 fun j hj => List.find?_eq_none.1 hn j (List.mem_of_mem_filter hj)
  refine find?_foldl_addJob (e := e) ?_ ?_ hnone he
  · rw [wantedAt, List.length_map]
    exact (Nat.add_le_add_right hlen _).trans hroom
  · have hp : (Wanted.isOf x (g - 7) ∘ fun p : StreamId × JobClass => (⟨p.1, p.2, g - 7, s.now + 72000000⟩ : Wanted)) =
        fun p => p.1 == x := by
      funext p
      simp [Wanted.isOf]
    rw [wantedAt, List.find?_map, hp, show decodeSet (arrived s g) = decodeSet s from rfl, hd]
    rfl

/-- The keys of the jobs stand but for those that are made. -/
theorem jobsApart_createFrame (h : JobsApart s) (f : FrameCount) (r : Instant) : JobsApart (createFrame s f r) := by
  unfold JobsApart
  rw [createFrame_jobs]
  generalize wantedAt s f r = qs
  unfold JobsApart at h
  generalize s.jsc.jobs = js at h ⊢
  induction qs generalizing js with
  | nil => exact h
  | cons q qs ih =>
    refine ih _ ?_
    unfold addJob
    split
    · exact h
    · split
      · exact h
      · rename_i e _ hn
        have hnone : js.find? (fun j => j.stream == q.stream && j.frame == q.frame) = none := by
          rw [← Option.not_isSome_iff_eq_none]
          exact fun hs => hn (.inl hs)
        rw [List.map_append, List.nodup_append]
        refine ⟨h, List.nodup_singleton _, ?_⟩
        intro a ha b hb hab
        obtain ⟨j, hj, rfl⟩ := List.mem_map.1 ha
        obtain rfl := List.mem_singleton.1 hb
        obtain ⟨h1, h2⟩ := Prod.mk.inj hab
        refine List.find?_eq_none.1 hnone j hj ?_
        simp [h1, h2, plannedJob]

theorem jobsApart_jobsMade (h : JobsApart s) : JobsApart (jobsMade s g whole) := by
  have ha : JobsApart (arrived s g) := List.Nodup.sublist (List.Sublist.map _ List.filter_sublist) h
  unfold jobsMade
  split
  · unfold createOrDefer
    split
    · exact jobsApart_createFrame ha _ _
    · unfold JobsApart
      rw [jobs_defer]
      exact ha
  · exact ha

/-- All that the job scheduler does at a payload end. -/
theorem jobsAtPayloadEnd_brings (hst : whole = true → stillInSlots s (g - 7) = true) :
    let u := jobsAtPayloadEnd s g whole
    let m := applicable s.maps (g - 7)
    let creates := whole = true ∧ creating s = true
    (creates → m.usable = true → s.jsc.jobs.length + (decodeSet s).length ≤ 32 → ∀ x cls e,
      (decodeSet s).find? (fun p => p.1 == x) = some (x, cls) → m.entryOf x = some e → jobOf s x (g - 7) = none →
        ∃ j, jobOf u x (g - 7) = some j ∧ j.plan = plannedJob s.maps ⟨x, cls, g - 7, s.now + 72000000⟩ e) ∧
    (¬creates ∨ m.usable = false → ∀ j ∈ u.jsc.jobs, ∃ k ∈ s.jsc.jobs, k.stream = j.stream ∧ k.frame = j.frame) ∧
    (creates → m.usable = false →
      if nextApplies s.maps (g - 7) then u.maps.next.deferred = some (s.maps.next.deferred.getD (g - 7))
      else (∀ o, s.maps.outgoing = some o → earlierThan (g - 7) o.changeFrame = false) →
        u.maps.current.deferred = some (s.maps.current.deferred.getD (g - 7))) ∧
    (¬creates → u.maps = s.maps) ∧
    (∀ j ∈ u.jsc.jobs, underWay j = false → stillInSlots s j.frame = true) ∧
    (∀ j ∈ u.jsc.jobs, j.state = .waiting → ∃ k ∈ u.jsc.jobs, k.stream = j.stream ∧ k.frame ≠ j.frame) ∧
    (JobsApart s → s.mod.mode ≠ .draining → s.mod.mode ≠ .quiesced → (∃ e, (engineOf u e).job = none) →
      ∀ j ∈ u.jsc.jobs, j.state ≠ .ready) := by
  have hi : Issued (jobsMade s g whole) (jobsAtPayloadEnd s g whole) := issued_settleJobs _
  obtain ⟨f, hf, hgiven⟩ := hi.jobs
  refine ⟨fun hc hu hroom x cls e hd he hn => ?_, fun hnone j hj => ?_, fun hc hu => ?_, fun hc => ?_, fun j hj hu => ?_,
    fun j hj hw => settleJobs_waiting hj hw, fun ha hd hq he => ?_⟩
  · obtain ⟨j, hj, hpl⟩ := job_of_jobsMade hc.1 hc.2 hu hroom hd he hn
    have hmap := hi.jobOf x (g - 7)
    rw [hj] at hmap
    obtain ⟨k, hk, hkp⟩ := Option.map_eq_some_iff.1 hmap
    exact ⟨k, hk, hkp.trans hpl⟩
  · rw [hf, jobsMade_none hnone] at hj
    obtain ⟨k, hk, rfl⟩ := List.mem_map.1 hj
    have hgk := hgiven k (by rw [jobsMade_none hnone]; exact hk)
    exact ⟨k, List.mem_of_mem_filter hk, hgk.stream.symm, hgk.frame.symm⟩
  · rw [hi.scope.maps, jobsMade_defers hc.1 hc.2 hu]
    exact maps_defer (arrived s g) (g - 7)
  · rw [hi.scope.maps, jobsMade_idle hc]
    rfl
  · rw [hf] at hj
    obtain ⟨k, hk, rfl⟩ := List.mem_map.1 hj
    have hgk := hgiven k hk
    rw [hgk.frame]
    refine still_of_jobsMade hst hk ?_
    rw [← Bool.not_eq_true]
    intro hku
    rw [hgk.kept hku, hku] at hu
    cases hu
  · have hw : Within [.scheduler, .mapUnit, .arrivals] s (jobsMade s g whole) :=
      ((within_expire s).mono.trans (within_noteArrival (expire s) g).mono).trans (within_jobsMade s g whole).mono
    have hmode : (retest (jobsMade s g whole)).mod.mode = s.mod.mode := hw.mode
    exact issueRound_exhausts (s := retest (jobsMade s g whole)) (loneReady_retest (jobsApart_jobsMade ha))
      (fun h => hd (hmode.symm.trans h)) (fun h => hq (hmode.symm.trans h)) he

end

/-! ### The 7,200th word (R8) -/

theorem gathered_full {ws : List CellWord} (h : ws.length = 7199) (w : CellWord) :
    gathered (some (w :: ws)) = ws.reverse ++ [w] := by
  have hl : (ws.reverse ++ [w]).length = 7200 := by simp [h]
  show (((w :: ws).reverse ++ List.replicate 7200 erasedWord).take 7200) = _
  rw [List.reverse_cons, List.take_append_of_le_length (by rw [hl]), List.take_of_length_le (by rw [hl])]

/-- No trial frame is open: nothing fails. -/
theorem failIfUnnamed_closed {s : State} {f : Frame} (hf : s.ftr.frame = some f) (h : openTrial s f = false) :
    failIfUnnamed s = s := by
  rw [failIfUnnamed, hf]
  exact if_neg (by rw [h]; simp)

theorem endPayload_over {s : State} (h : ∀ f, s.ftr.frame = some f → f.payloadEnded = true) : endPayload s = s := by
  unfold endPayload
  split
  · rfl
  · exact if_pos (h _ ‹_›)

theorem endPayload_closed {s : State} {f : Frame} (hf : s.ftr.frame = some f) (he : f.payloadEnded = false)
    (h : openTrial s f = false) : endPayload s = finishPayload s f := by
  unfold endPayload
  simp only [hf, failIfUnnamed_closed hf h]
  exact if_neg (by rw [he]; simp)

theorem finishPayload_named {s : State} {f : Frame} (hn : f.named = true) :
    finishPayload s f = issuePayloadEnd (setFrame s { f with payloadEnded := true, fileAt := none }) (filedReceived f) := if_pos hn

theorem openTrial_of_kind {s : State} {f : Frame} (h : f.kind ≠ .trial) : openTrial s f = false := by simp [openTrial, h]

/-- The state as the last payload word finds the payload end: the offset measured, the payload over. -/
def payloadOver (s : State) (f : Frame) (w : CellWord) : State :=
  { s with
    ftr := { s.ftr with
      payloadOffset := s.now - f.begun,
      frame := some { f with payloadWords := f.payloadWords + 1, payloadEnded := true, fileAt := none } },
    ilm := { s.ilm with fill := s.ilm.fill.map (w :: ·) } }

theorem takePayloadWord_last {s : State} {f : Frame} (w : CellWord) (hf : s.ftr.frame = some f) (hk : f.kind = .reception)
    (hn : f.named = true) (he : f.payloadEnded = false) (hw : f.payloadWords = 7199) :
    takePayloadWord s w = issuePayloadEnd (payloadOver s f w) true := by
  let g : Frame := { f with payloadWords := f.payloadWords + 1 }
  let s1 := measureOffset (gather (setFrame s g) w) f
  have hg : s1.ftr.frame = some g := rfl
  have hfr : filedReceived g = true := by simp [filedReceived, g, hk]
  calc takePayloadWord s w
      = endPayload s1 := by
        rw [takePayloadWord_received hf (by simp [isReceived, hk]) he w]
        exact if_neg (by rw [hw]; decide)
    _ = finishPayload s1 g := endPayload_closed hg he (openTrial_of_kind (by rw [hk]; decide))
    _ = issuePayloadEnd (payloadOver s f w) true := by
        rw [finishPayload_named (f := g) hn, hfr]
        rfl

/-- A frame filed now, of a whole run, leaves the logical frame that it completes in the slots (R49, R53). -/
theorem still_filed (s : State) (received : Bool) (h : 7 ≤ s.ilm.fillRun) :
    stillInSlots (filed s received) (s.ftr.count - 7) = true := by
  have hc : s.ftr.count - 7 + 7 = s.ftr.count := by bv_omega
  have hslot : slotOf (filed s received) s.ftr.count = _ := whole_fileSlot s.ilm s.ftr.count received
  unfold stillInSlots
  rw [hc, hslot, decide_eq_true h]
  simp

theorem creating_iff (s : State) : creating s = true ↔ s.mod.mode = .running ∨ s.mod.mode = .restarting := by
  simp [creating]

/-- Settles O9: the word brings the payload end, which files the frame and hands it to the job scheduler. -/
theorem payloadEndFilesReceived : Obligations.PayloadEndFilesReceived := by
  intro s t i w b f ws hlast g m creates
  obtain ⟨hs, hal, hlane, hframe, hkind, hnamed, hended, hwords, hfill, hlen⟩ := hlast
  let o := payloadOver (setLane (s.clocked t) i (countWord (laneOf s i))) f w
  let fd := filed o true
  let whole := decide (7 ≤ s.ilm.fillRun)
  have htake : takePayloadWord (setLane (s.clocked t) i (countWord (laneOf s i))) w = jobsAtPayloadEnd fd s.ftr.count whole :=
    (takePayloadWord_last (s := setLane (s.clocked t) i _) w hframe hkind hnamed hended hwords).trans (issuePayloadEnd_eq o true)
  have hwj := within_jobsAtPayloadEnd fd s.ftr.count whole
  have hwo : Within [.time, .lanes, .tracker, .slots] s fd := by
    intro p hp
    cases p <;> first | exact absurd (by decide) hp | exact rfl | exact ⟨rfl, rfl⟩ | exact ⟨rfl, rfl, rfl⟩
  have hset : Settled (jobsAtPayloadEnd fd s.ftr.count whole) :=
    Settled.within (hs.2.congr rfl rfl rfl rfl rfl rfl : Settled fd) hwj
  have hcr : creates ↔ whole = true ∧ creating fd = true := by
    rw [creating_iff, decide_eq_true_iff]
    exact Iff.rfl
  obtain ⟨hmade, hnone, hdefer, hmaps, hstill, hwait, hready⟩ := jobsAtPayloadEnd_brings (s := fd) (g := s.ftr.count)
    (whole := whole) fun h => still_filed o true (of_decide_eq_true h)
  refine ⟨_, exec_payloadWord hs hal hlane htake hset, ?_, fun n hn => ?_, ?_, ?_, ?_,
    arrivals_jobsAtPayloadEnd fd s.ftr.count whole, fun hc hu hroom x cls e hd he hn => ?_,
    fun h => hnone (h.imp (fun h k => h (hcr.2 k)) id), fun hc => hdefer (hcr.1 hc), fun hc => hmaps fun k => hc (hcr.2 k),
    fun j hj hu => ?_, hwait, hready, hwo.mono.trans hwj.mono⟩
  · rw [hwj.ilm]
    refine (whole_fileSlot o.ilm s.ftr.count true).trans ?_
    have hf : o.ilm.fill = some (w :: ws) := congrArg (Option.map (w :: ·)) hfill
    rw [hf, gathered_full hlen]
    rfl
  · rw [hwj.ilm]
    exact other_fileSlot o.ilm true hn
  · rw [hwj.ilm]
    rfl
  · rw [hwj.ilm]
    rfl
  · rw [hwj.ftr]
    show ({ o.ftr with releases := _ } : Tracker) = _
    simp only [o, payloadOver, hwords]
    rfl
  · obtain ⟨j, hj, hpl⟩ := hmade (hcr.1 hc) hu hroom x cls e hd he hn
    exact ⟨j, hj, (congrArg Job.cls hpl :), (congrArg Job.changeCount hpl :), (congrArg Job.start hpl :),
      (congrArg Job.grains hpl :), (congrArg Job.profile hpl :), (congrArg Job.kind hpl :), (congrArg Job.speculative hpl :),
      (congrArg Job.discard hpl :), (congrArg Job.release hpl :)⟩
  · have h := hstill j hj hu
    unfold stillInSlots slotOf at h ⊢
    rw [hwj.ilm]
    exact h

end Sys2Proof.Machine

/-! PROOFS. Engines: the completed load and the end of decoding (R68, R70 to R73, R75, R78, R102). -/

namespace Sys2Proof.Machine

-- one theorem at a time: elaborated side by side, they would hold more threads than the check allows
set_option Elab.async false

/-! ### The completed load (R68, R70, R75) -/

theorem spanRead_congr {a b : State} (h : b.ilm = a.ilm) (f : FrameCount) (start grains : Nat) :
    spanRead b f start grains = spanRead a f start grains := by
  unfold spanRead slotOf
  rw [h]

/-- The checkpoint entry of the context `c` as the job `j` of its stream begins decoding. -/
def entryAtDecoding (j : Job) (c : Context) : Checkpoint :=
  if j.speculative = true ∧ c.checkpoint = .pending then .held { next := c.next, metrics := c.metrics, warm := c.warm }
  else c.checkpoint

theorem contextOf_takeCheckpoint (s : State) (j : Job) (x : StreamId) :
    contextOf (takeCheckpoint s j) x =
      if x = j.stream then { contextOf s x with checkpoint := entryAtDecoding j (contextOf s x) } else contextOf s x := by
  unfold takeCheckpoint entryAtDecoding
  dsimp only
  split
  · rename_i h
    rw [contextOf_setContext]
    split
    · subst x
      simp [h]
    · rfl
  · split
    · subst x
      rename_i h
      simp [h]
    · rfl

theorem engineOf_takeCheckpoint (s : State) (j : Job) (e : EngineId) : engineOf (takeCheckpoint s j) e = engineOf s e :=
  keeps_ite (P := fun u => engineOf u e = engineOf s e) (fun _ => rfl) fun _ => rfl

theorem engineOf_beginDecoding (s : State) (e : EngineId) (j : Job) (d : EngineId) :
    engineOf (beginDecoding s e j) d =
      if d = e then { engineOf s e with phase := .decoding (s.now + j.grains * grainTime),
                                        span := spanRead s j.frame j.start j.grains }
      else engineOf s d := by
  have hw := within_takeCheckpoint s j
  rw [beginDecoding, engineOf_setEngine, engineOf_takeCheckpoint, engineOf_takeCheckpoint, spanRead_congr hw.ilm, hw.now]

theorem contextOf_beginDecoding (s : State) (e : EngineId) (j : Job) (x : StreamId) :
    contextOf (beginDecoding s e j) x =
      if x = j.stream then { contextOf s x with checkpoint := entryAtDecoding j (contextOf s x) } else contextOf s x :=
  contextOf_takeCheckpoint s j x

theorem beginDecoding_jobs (s : State) (e : EngineId) (j : Job) : (beginDecoding s e j).jsc.jobs = s.jsc.jobs :=
  keeps_ite (P := fun u => u.jsc.jobs = s.jsc.jobs) (fun _ => rfl) fun _ => rfl

theorem engineOf_holdContext {s : State} {e : EngineId} (h : (engineOf s e).dropAtEnd = false) (j : Job) (dirty : Bool)
    (d : EngineId) : engineOf (holdContext s e j dirty) d =
      if d = e then { engineOf s e with held := some j.stream, dirty := dirty } else engineOf s d := by
  rw [holdContext, if_neg (by simp [h])]
  exact engineOf_setEngine _ _ _ _

theorem contextOf_holdContext {s : State} {e : EngineId} (h : (engineOf s e).dropAtEnd = false) (j : Job) (dirty : Bool)
    (x : StreamId) : contextOf (holdContext s e j dirty) x =
      if x = j.stream then { contextOf s x with location := .engine e } else contextOf s x := by
  rw [holdContext, if_neg (by simp [h])]
  refine (contextOf_setContext _ _ _ _).trans ?_
  split
  · subst x; rfl
  · rfl

theorem holdContext_jobs (s : State) (e : EngineId) (j : Job) (dirty : Bool) :
    (holdContext s e j dirty).jsc.jobs = s.jsc.jobs :=
  keeps_ite (P := fun u => u.jsc.jobs = s.jsc.jobs) (fun _ => rfl) fun _ => rfl

theorem completeMove_loaded {s : State} {e : EngineId} {j : Job} {till : Instant} (hj : engineJob s e = some j)
    (hp : (engineOf s e).phase = .loading till) (ht : till ≤ s.now) :
    completeMove s e = beginDecoding (holdContext s e j false) e j := by
  unfold completeMove
  rw [hj]
  dsimp only
  rw [hp]
  exact if_neg (Nat.not_lt.2 ht)

/-- Settles O20. -/
theorem loadedContextBeginsDecoding : Obligations.LoadedContextBeginsDecoding := by
  intro s t till e j hs hj hp ht hd c
  have he := completeMove_loaded (s := s.clocked t) hj hp ht
  have hw := (within_clocked s t).mono.trans (within_completeMove (s.clocked t) e).mono (ps := [.time, .scheduler])
  have hh := within_holdContext (s.clocked t) e j false
  have hd' : (engineOf (s.clocked t) e).dropAtEnd = false := hd
  refine ⟨_, exec_eq hs rfl rfl (hs.2.within hw), ?_, fun d hne => ?_, ?_, fun x hne => ?_, ?_, hw⟩
  · rw [he, engineOf_beginDecoding, if_pos rfl, engineOf_holdContext hd', if_pos rfl, spanRead_congr hh.ilm, hh.now]
    rfl
  · rw [he, engineOf_beginDecoding, if_neg hne, engineOf_holdContext hd', if_neg hne]
    rfl
  · rw [he, contextOf_beginDecoding, if_pos rfl, contextOf_holdContext hd', if_pos rfl]
    rfl
  · rw [he, contextOf_beginDecoding, if_neg hne, contextOf_holdContext hd', if_neg hne]
    rfl
  · rw [he, beginDecoding_jobs, holdContext_jobs]
    rfl

/-! ### A copy that the store has room for (R99, R102) -/

/-- An offer to a queue with room takes no entry's place: the store and the map unit have no part in it. -/
theorem within_offerAnyway_roomy {s : State} (h : s.lnk.queue.length < 24) (e : Entry) :
    Within [.queue, .counters] s (offerAnyway s e) := by
  have hkept (u : State) (hu : queued s .map none none = true → queued u .map none none = true) (b : Bool)
      (ho : offerEntry s e = (u, b)) : offerAnyway s e = u := by
    unfold offerAnyway offer
    rw [ho]
    dsimp only
    rw [if_neg]
    cases hq : queued s .map none none with
    | false => simp
    | true => simp [hu hq]
  have hrewrite : queued s .map none none = true → queued (rewriteHeld s e) .map none none = true := by
    rw [queued, queued, List.any_eq_true, List.any_eq_true]
    rintro ⟨d, hd, hm⟩
    refine ⟨_, List.mem_map_of_mem hd, ?_⟩
    split
    · exact hm
    · exact hm
  have hinsert : queued s .map none none = true → queued (insertNew s e) .map none none = true := by
    rw [queued, queued, List.any_eq_true, List.any_eq_true]
    exact fun ⟨d, hd, hm⟩ => ⟨d, mem_placeEntry.2 (.inr hd), hm⟩
  rcases offerEntry_cases s e with ⟨-, ho⟩ | ⟨-, -, ⟨-, ho⟩ | ⟨-, ho⟩ | ⟨-, -, ho⟩⟩ |
    ⟨-, -, ⟨-, -, ho⟩ | ⟨-, ho⟩ | ⟨hfull, -⟩⟩
  · rw [hkept _ id _ ho]
    exact .refl _ s
  · rw [hkept (countTraceDrop (rewriteHeld s e)) hrewrite _ ho]
    exact (within_rewriteHeld s e).mono.trans (within_countTraceDrop _).mono
  · rw [hkept _ hrewrite _ ho]
    exact (within_rewriteHeld s e).mono
  · rw [hkept _ id _ ho]
    exact .refl _ s
  · rw [hkept (countTraceDrop s) id _ ho]
    exact (within_countTraceDrop s).mono
  · rw [hkept _ hinsert _ ho]
    exact (within_insertNew s e).mono
  · exact absurd hfull (Nat.not_le.2 h)

theorem chooseVictims_none {need free held : Nat} (hp : need ≤ free) (hr : held < 48) (cs : List ParcelRecord) :
    chooseVictims need free held cs = some [] := by
  have h : roomFor need free held = true := by
    rw [roomFor, Bool.and_eq_true, decide_eq_true_iff, decide_eq_true_iff]
    exact ⟨hp, hr⟩
  cases cs with
  | nil => exact if_pos h
  | cons c cs => exact if_pos h

/-- The record of a usable copy whose offer instant is still to come, made of the head of the free-page list. -/
def waitingRecord (s : State) (j : Job) (o : JobOutcome) : ParcelRecord :=
  { recordFrom j o (s.pst.freePages.take (pagesFor o.parcel.length)) with
    state := .waiting, offerAt := some (offerInstantOf j.release o.score) }

theorem recordOf_fillRecord {s : State} {j : Job} (o : JobOutcome) (h : recordOf s j.stream j.frame = none) :
    recordOf (fillRecord s j o) j.stream j.frame = some (recordFrom j o (s.pst.freePages.take (pagesFor o.parcel.length))) := by
  unfold recordOf at h ⊢
  show List.find? _ (s.pst.records ++ [_]) = _
  rw [List.find?_append, h]
  simp [recordFrom]

section

variable {s : State} {j : Job} {o : JobOutcome} (hspec : j.speculative = false) (hrec : recordOf s j.stream j.frame = none)
  (hheld : s.pst.records.length < 48) (hpages : pagesFor o.parcel.length ≤ s.pst.freePages.length)
  (husable : unusableCopy o.pass o.saturated = false) (hnow : s.now < offerInstantOf j.release o.score)
include hspec hrec hheld hpages husable hnow

theorem makeRecord_waits :
    makeRecord s j o =
      updateRecord (setOffer (fillRecord s j o) (recordFrom j o (s.pst.freePages.take (pagesFor o.parcel.length))))
        j.stream j.frame (fun r => { r with state := .waiting }) := by
  have hplace {r : ParcelRecord} (hr : r = recordFrom j o (s.pst.freePages.take (pagesFor o.parcel.length))) :
      placeRecord (fillRecord s j o) r =
        updateRecord (setOffer (fillRecord s j o) r) r.stream r.frame (fun r => { r with state := .waiting }) := by
    subst hr
    rw [placeRecord, if_neg (by simp [usableRecord, recordFrom, husable])]
    exact if_pos hnow
  unfold makeRecord
  rw [hrec, if_neg (by simp), victimsFor, chooseVictims_none hpages hheld]
  dsimp only
  rw [if_neg (by simp [hspec]), show evict s [] = s from rfl, recordOf_fillRecord o hrec]
  exact hplace rfl

theorem recordOf_makeRecord : recordOf (makeRecord s j o) j.stream j.frame = some (waitingRecord s j o) := by
  rw [makeRecord_waits hspec hrec hheld hpages husable hnow]
  have h1 : recordOf (setOffer (fillRecord s j o) (recordFrom j o (s.pst.freePages.take (pagesFor o.parcel.length))))
      j.stream j.frame = _ := recordOf_updateRecord (recordOf_fillRecord o hrec) fun _ => ⟨rfl, rfl⟩
  exact recordOf_updateRecord h1 fun _ => ⟨rfl, rfl⟩

theorem makeRecord_pages :
    (makeRecord s j o).pst.freePages = s.pst.freePages.drop (pagesFor o.parcel.length) ∧
      (makeRecord s j o).pst.pageMem =
        writePages s.pst.pageMem (s.pst.freePages.take (pagesFor o.parcel.length)) o.parcel := by
  rw [makeRecord_waits hspec hrec hheld hpages husable hnow]
  exact ⟨rfl, rfl⟩

theorem within_makeRecord_waits : Within [.store, .pageMem] s (makeRecord s j o) := by
  rw [makeRecord_waits hspec hrec hheld hpages husable hnow]
  exact ((within_fillRecord s j o).trans (within_setOffer _ _).mono).trans (within_updateRecord _ _ _ _).mono

end

/-! ### The end of decoding (R70, R72, R78) -/

/-- The state once engine `e` has ended decoding the job `j`, before its outcome is disposed of. -/
def decoded (s : State) (e : EngineId) (j : Job) (ms : List Nat) : State :=
  advanceContext (updateJob s j.stream j.frame (fun j => { j with state := .finishing })) e j ms

theorem within_decoded (s : State) (e : EngineId) (j : Job) (ms : List Nat) : Within [.scheduler] s (decoded s e j ms) :=
  (within_updateJob s _ _ _).trans (within_advanceContext _ e j ms)

theorem endDecoding_eq {s : State} {e : EngineId} {j : Job} {till : Instant} (hj : engineJob s e = some j)
    (hp : (engineOf s e).phase = .decoding till) (ht : till ≤ s.now) (found : Decoded) :
    endDecoding s e found =
      retire (decoded s e j found.metrics) e j (outcomeOf j (engineOf s e).span found s.now) := by
  unfold endDecoding
  rw [hj]
  dsimp only
  rw [hp]
  exact if_neg (Nat.not_lt.2 ht)

theorem advanceContext_next {s : State} {e : EngineId} {j : Job} (hd : (engineOf s e).dropAtEnd = false)
    (hc : (contextOf s j.stream).checkpoint = .none) (ms : List Nat) :
    (contextOf (advanceContext s e j ms) j.stream).next = j.frame + 1 := by
  unfold advanceContext
  dsimp only
  rw [hc]
  dsimp only
  rw [if_neg (by simp [hd]), contextOf_setContext, if_pos rfl]

/-- A waiting restore takes the copy, and the engine keeps nothing. -/
theorem advanceContext_restores {s : State} {e : EngineId} {j : Job} {k : ContextCopy} {reopened : Bool}
    (hc : (contextOf s j.stream).checkpoint = .restoring k reopened) (ms : List Nat) :
    contextOf (advanceContext s e j ms) j.stream =
        { next := k.next, metrics := k.metrics, warm := k.warm, location := .table,
          checkpoint := if reopened then .pending else .none } ∧
      (engineOf (advanceContext s e j ms) e).held = none := by
  unfold advanceContext
  dsimp only
  rw [hc]
  dsimp only
  refine ⟨(contextOf_setContext _ _ _ _).trans (if_pos rfl), ?_⟩
  show (engineOf (setEngine _ e _) e).held = none
  rw [engineOf_setEngine, if_pos rfl]

theorem advanceContext_jobs (s : State) (e : EngineId) (j : Job) (ms : List Nat) :
    (advanceContext s e j ms).jsc.jobs = s.jsc.jobs := by
  unfold advanceContext
  dsimp only
  split
  · rfl
  · split
    · rfl
    · rfl

theorem mem_decoded_jobs {s : State} {e : EngineId} {j k : Job} {ms : List Nat} (h : k ∈ (decoded s e j ms).jsc.jobs) :
    ∃ i ∈ s.jsc.jobs, k.stream = i.stream ∧ k.frame = i.frame := by
  rw [decoded, advanceContext_jobs] at h
  obtain ⟨i, hi, rfl⟩ := List.mem_map.1 h
  refine ⟨i, hi, ?_⟩
  split
  · exact ⟨rfl, rfl⟩
  · exact ⟨rfl, rfl⟩

/-! ### Retirement (R72, R73) -/

theorem isLate_congr {a b : State} (h : b.dlv.cursors = a.dlv.cursors) (j : Job) : isLate b j = isLate a j := by
  unfold isLate
  rw [cursorOf_congr h]

theorem isTraced_congr {a b : State} (h : b.sub.table = a.sub.table) (x : StreamId) : isTraced b x = isTraced a x := by
  unfold isTraced
  rw [h]

theorem jobOf_leaveTable (s : State) (e : EngineId) (j : Job) : jobOf (leaveTable s e j) j.stream j.frame = none :=
  List.find?_eq_none.2 fun k hk hp => by
    have hne := (List.mem_filter.1 hk).2
    rw [hp] at hne
    cases hne

theorem contextOf_leaveTable (s : State) (e : EngineId) (j : Job) (x : StreamId) :
    contextOf (leaveTable s e j) x = contextOf s x := rfl

theorem held_leaveTable (s : State) (e : EngineId) (j : Job) : (engineOf (leaveTable s e j) e).held = (engineOf s e).held := by
  show (engineOf (setEngine _ e _) e).held = _
  rw [engineOf_setEngine, if_pos rfl]
  rfl

/-- A retirement that no re-creation follows, in a mode that reports nothing. -/
theorem retire_plain {s : State} {e : EngineId} {j : Job} {o : JobOutcome} (hp : j.putOff = false)
    (hm : s.mod.mode ≠ .quiescing) :
    retire s e j o = settleJobs (leaveTable (offerTrace (dispose s j o) j o) e j) := by
  have hmode : (leaveTable (offerTrace (dispose s j o) j o) e j).mod.mode ≠ .quiescing := by
    rw [(within_leaveTable _ e j).mode, (within_offerTrace _ j o).mode, (within_dispose s j o).mode]
    exact hm
  unfold retire
  dsimp only
  rw [if_neg (by simp [hp]), reportIdle, if_neg fun h => hmode h.1]

/-- What retirement leaves of the job, once its outcome is disposed of. -/
theorem settled_leaveTable (s : State) (e : EngineId) (j : Job) :
    jobOf (settleJobs (leaveTable s e j)) j.stream j.frame = none ∧
      Moved (contextOf s j.stream) (contextOf (settleJobs (leaveTable s e j)) j.stream) := by
  have hi := issued_settleJobs (leaveTable s e j)
  refine ⟨?_, hi.contexts j.stream⟩
  have h := hi.jobOf j.stream j.frame
  rw [jobOf_leaveTable] at h
  exact Option.map_eq_none_iff.1 h

theorem noneUnderWay_left {s : State} {e : EngineId} {j : Job}
    (h : ∀ k ∈ s.jsc.jobs, k.stream = j.stream → k.frame = j.frame) :
    noneUnderWay (settleJobs (leaveTable s e j)) j.stream := by
  obtain ⟨g, hg, hgiven⟩ := (issued_settleJobs (leaveTable s e j)).jobs
  intro k hk hx
  rw [hg] at hk
  obtain ⟨i, hi, rfl⟩ := List.mem_map.1 hk
  obtain ⟨hin, hne⟩ := List.mem_filter.1 hi
  rw [(hgiven i hi).stream] at hx
  simp [hx, h i hin hx] at hne

theorem within_offerTrace_roomy {s : State} {j : Job} (h : isTraced s j.stream = false ∨ s.lnk.queue.length < 24)
    (o : JobOutcome) : Within [.queue, .counters] s (offerTrace s j o) := by
  refine .ite (fun ht => ?_) fun _ => .refl _ s
  exact within_offerAnyway_roomy (h.resolve_left (by simp [ht])) _

/-- The job of engine `e` leaves the table at `a`, its stream's context being one that expects frame `f`. -/
theorem settled_next {a : State} {e : EngineId} {j : Job} {f : FrameCount} (h : (contextOf a j.stream).next = f) :
    (contextOf (settleJobs (leaveTable a e j)) j.stream).next = f :=
  (settled_leaveTable a e j).2.next.trans h

theorem within_left (s : State) (e : EngineId) (j : Job) : Within [.scheduler] s (settleJobs (leaveTable s e j)) :=
  (within_leaveTable s e j).trans (issued_settleJobs _).scope

theorem contextOf_congr {a b : State} (h : b.jsc.contexts = a.jsc.contexts) (x : StreamId) : contextOf b x = contextOf a x := by
  unfold contextOf
  rw [h]

theorem engineOf_congr {a b : State} (h : b.jsc.engines = a.jsc.engines) (e : EngineId) : engineOf b e = engineOf a e := by
  unfold engineOf
  rw [h]

/-- A late outcome is counted, and nothing of it kept. -/
theorem retire_late {s : State} {e : EngineId} {j : Job} {o : JobOutcome} (hd : j.discard = true) (hp : j.putOff = false)
    (hm : s.mod.mode ≠ .quiescing) (ht : isTraced s j.stream = false) :
    retire s e j o = settleJobs (leaveTable (countLateParcel s) e j) := by
  rw [retire_plain hp hm, dispose, if_pos (by simp [isLate, hd]), offerTrace, if_neg]
  rw [show isTraced (countLateParcel s) j.stream = isTraced s j.stream from rfl, ht]
  decide

/-- The copy of a waiting restore stands where no other job of its stream is left in the table. -/
theorem settled_restored {s : State} {e : EngineId} {j : Job} {c : Context} (hc : contextOf s j.stream = c)
    (hl : c.location = .table) (he : (engineOf s e).held = none)
    (h : ∀ k ∈ s.jsc.jobs, k.stream = j.stream → k.frame = j.frame) :
    contextOf (settleJobs (leaveTable s e j)) j.stream = c ∧
      (engineOf (settleJobs (leaveTable s e j)) e).held ≠ some j.stream := by
  have hi := issued_settleJobs (leaveTable s e j)
  have hn : noneUnderWay (settleJobs (leaveTable s e j)) j.stream := noneUnderWay_left h
  refine ⟨(hi.located j.stream hn (by rw [contextOf_leaveTable, hc]; exact hl)).trans hc, hi.unheld j.stream e hn ?_⟩
  rw [held_leaveTable, he]
  simp

/-- Settles O21. -/
theorem decodeEndStoresOrDrops : Obligations.DecodeEndStoresOrDrops := by
  refine ⟨?_, ?_⟩
  · intro s t till e j found hs hj hp ht hd hc hm hspec hput hlate hrec hheld hroom o hpages husable hnow
    have hdec := ((within_clocked s t).mono (qs := [.time, .scheduler])).trans
      (within_decoded (s.clocked t) e j found.metrics).mono
    have hnext : (contextOf (decoded (s.clocked t) e j found.metrics) j.stream).next = j.frame + 1 :=
      advanceContext_next (s := updateJob (s.clocked t) j.stream j.frame _) hd hc _
    have hbnow : (decoded (s.clocked t) e j found.metrics).now = max s.now t := (within_decoded _ e j _).now
    have hrun : endDecoding (s.clocked t) e found = retire (decoded (s.clocked t) e j found.metrics) e j o :=
      endDecoding_eq (s := s.clocked t) hj hp ht found
    generalize decoded (s.clocked t) e j found.metrics = b at hdec hnext hbnow hrun
    rw [retire_plain hput (by rw [hdec.mode, hm]; decide), dispose,
      if_neg (by rw [isLate_congr hdec.cursors, hlate]; decide)] at hrun
    have hbrec : recordOf b j.stream j.frame = none := (recordOf_congr hdec.records _ _).trans hrec
    have hbheld : b.pst.records.length < 48 := by rw [hdec.records]; exact hheld
    have hbpages : pagesFor o.parcel.length ≤ b.pst.freePages.length := by rw [hdec.freePages]; exact hpages
    have hbdue : b.now < offerInstantOf j.release o.score := by rw [hbnow]; exact hnow
    have hwrec := within_makeRecord_waits hspec hbrec hbheld hbpages husable hbdue
    obtain ⟨hfree, hmem⟩ := makeRecord_pages hspec hbrec hbheld hbpages husable hbdue
    have hmade := recordOf_makeRecord hspec hbrec hbheld hbpages husable hbdue
    have htrace : Within [.queue, .counters] (makeRecord b j o) (offerTrace (makeRecord b j o) j o) := by
      refine within_offerTrace_roomy ?_ o
      rw [isTraced_congr (hwrec.table.trans hdec.table), hwrec.queue, hdec.queue]
      exact hroom
    have hleft := within_left (offerTrace (makeRecord b j o) j o) e j
    have hwithin := ((hdec.mono (qs := [.time, .scheduler, .store, .pageMem, .queue, .counters, .mapUnit])).trans
      hwrec.mono).trans (htrace.mono.trans hleft.mono)
    refine ⟨_, waitingRecord b j o, exec_eq hs rfl hrun (hs.2.within hwithin), ?_, rfl, rfl, rfl, rfl, rfl, rfl, rfl, rfl, rfl,
      rfl, rfl, ?_, ?_, ?_, (settled_leaveTable _ e j).1, settled_next ?_, hwithin⟩
    · rw [recordOf_congr (hleft.records.trans htrace.records)]
      exact hmade
    · show b.pst.freePages.take _ = _
      rw [hdec.freePages]
    · rw [hleft.freePages, htrace.freePages, hfree, hdec.freePages]
    · rw [hleft.pageMem, htrace.pageMem, hmem, hdec.freePages, hdec.pageMem]
    · rw [contextOf_congr (htrace.contexts.trans hwrec.contexts)]
      exact hnext
  · intro s t till e j found hs hj hp ht hm hdiscard hput htraced
    have hdec := ((within_clocked s t).mono (qs := [.time, .scheduler])).trans
      (within_decoded (s.clocked t) e j found.metrics).mono
    have hrun := (endDecoding_eq (s := s.clocked t) hj hp ht found).trans
      (retire_late hdiscard hput (by rw [hdec.mode]; exact hm) (by rw [isTraced_congr hdec.table]; exact htraced))
    have hcount := within_countLateParcel (decoded (s.clocked t) e j found.metrics)
    have hleft := within_left (countLateParcel (decoded (s.clocked t) e j found.metrics)) e j
    have hwithin := ((hdec.mono (qs := [.time, .scheduler, .counters])).trans hcount.mono).trans hleft.mono
    obtain ⟨hgone, hmoved⟩ := settled_leaveTable (countLateParcel (decoded (s.clocked t) e j found.metrics)) e j
    refine ⟨_, exec_eq hs rfl hrun (hs.2.within hwithin), ?_, hgone, fun k reopened hk => ?_, hwithin⟩
    · have hbump : (countLateParcel (decoded (s.clocked t) e j found.metrics)).mod.counters =
          { s.mod.counters with lateParcels := bump s.mod.counters.lateParcels } := by
        rw [← hdec.counters]
        rfl
      rw [hleft.counters, hbump, bump_eq]
    · obtain ⟨hctx, hheld⟩ := advanceContext_restores (s := updateJob (s.clocked t) j.stream j.frame _) (e := e) hk found.metrics
      refine ⟨hmoved.next.trans (congrArg Context.next hctx), hmoved.metrics.trans (congrArg Context.metrics hctx), fun hlone => ?_⟩
      refine settled_restored hctx rfl hheld fun i hi hx => ?_
      obtain ⟨i', hi', hx', hf'⟩ := mem_decoded_jobs hi
      rw [hf']
      exact hlone i' hi' (hx' ▸ hx)

end Sys2Proof.Machine

/-! PROOFS. O7, O13, O16, O17: departures of the payload lane, markers without frame time, the filing of missed frames, LOST. -/

namespace Sys2Proof.Machine

-- one theorem at a time: elaborated side by side, they would hold more threads than the check allows
set_option Elab.async false

/-! ### Missed frames (R12, R14, R48) -/

/-- Settles O16. -/
theorem flywheelFrameFiledErased : Obligations.FlywheelFrameFiledErased := by
  intro s t a f hs hf hn hk he ha hd
  let c : State := setFrame (s.clocked t) { f with payloadEnded := true, fileAt := none }
  have hkinds : filedReceived f = false ∧ f.kind ≠ .trial := by
    rcases hk with hk | hk
    · simp [filedReceived, hk]
    · simp [filedReceived, hk]
  have hrun : endPayload (s.clocked t) = issuePayloadEnd c false := by
    rw [endPayload_closed (s := s.clocked t) hf he (openTrial_of_kind hkinds.2), finishPayload_named hn, hkinds.1]
  have hcmd : exec (.flywheelPayloadEnd t) s = .next (live t s fun s =>
      match s.ftr.frame with
      | some f => if due s f.fileAt then endPayload s else s
      | none => s) := rfl
  have hbody : (match (s.clocked t).ftr.frame with
      | some f => if due (s.clocked t) f.fileAt then endPayload (s.clocked t) else s.clocked t
      | none => s.clocked t) = issuePayloadEnd c false := by
    rw [show (s.clocked t).ftr.frame = some f from hf]
    exact (if_pos (by rw [ha]; exact due_of_le hd)).trans hrun
  have hw : Within [.time, .tracker, .slots, .scheduler, .mapUnit, .arrivals] s (issuePayloadEnd c false) :=
    ((within_clocked s t).mono.trans (within_setFrame _ _).mono).trans (within_issuePayloadEnd c false).mono
  obtain ⟨hilm, hftr, harr⟩ := issuePayloadEnd_files c false
  refine ⟨_, exec_eq hs hcmd hbody (hs.2.congr hw.mode hw.linkState (by rw [hftr]; rfl) hw.claims hw.claimLoad hw.claimsOpen),
    ?_, fun n hne => ?_, ?_, ?_, hftr, harr, hw⟩
  · rw [hilm]
    exact whole_fileSlot s.ilm s.ftr.count false
  · rw [hilm]
    exact other_fileSlot s.ilm false hne
  · rw [hilm]
    rfl
  · rw [hilm]
    rfl

/-! ### LOST (R17, R55) -/

/-- The state at the entry to LOST, before claims are settled. -/
def lost (s : State) : State :=
  startStatusTimer (emptyReleaseList (emptyArrivals (dropOutgoing (cancelReleases (emptySlots (leaveFrames s .lost))))))

theorem enterLost_eq (s : State) :
    enterLost s = { lost s with sub := { s.sub with claims := [], claimLoad := 0, claimsOpen := false } } := by
  have h : claimsAllowed (lost s) = false := by
    unfold claimsAllowed
    rw [show (lost s).ftr.sync = .lost from rfl]
    simp
  have hn : ¬claimsAllowed (lost s) = true := by rw [h]; simp
  exact if_neg hn

theorem emptied_slots (n : Fin 8) : Ilm.reset.slots.get n = { tag := none, received := false, whole := false, cells := [] } := by
  revert n
  decide

/-- Settles O17. -/
theorem entryToLostClears : Obligations.EntryToLostClears := by
  intro s t m hs hsync hfly hm hd
  have hw : Within [.time, .tracker, .slots, .mapUnit, .arrivals, .releaseList, .claims, .statusTimer] s (enterLost (s.clocked t)) :=
    (within_clocked s t).mono.trans (within_enterLost _).mono
  have hcmd : exec (.entryToLost t) s = .next (live t s fun s =>
      match s.ftr.marker with
      | some m => if s.ftr.sync = .holdover ∧ s.ftr.flywheel = flywheelLimit ∧ m ≤ s.now + windowHalf then enterLost s else s
      | none => s) := rfl
  have hbody : (match (s.clocked t).ftr.marker with
      | some m =>
        if (s.clocked t).ftr.sync = .holdover ∧ (s.clocked t).ftr.flywheel = flywheelLimit ∧ m ≤ (s.clocked t).now + windowHalf
        then enterLost (s.clocked t) else s.clocked t
      | none => s.clocked t) = enterLost (s.clocked t) := by
    rw [show (s.clocked t).ftr.marker = some m from hm]
    exact if_pos ⟨hsync, hfly, hd⟩
  have hset : Settled (enterLost (s.clocked t)) := settled_settleClaims _
  refine ⟨_, exec_eq hs hcmd hbody hset, ?_⟩
  rw [enterLost_eq] at hw ⊢
  refine ⟨rfl, rfl, rfl, rfl, rfl, rfl, fun n => ?_, rfl, rfl, rfl, rfl, rfl, rfl, rfl, rfl, hw⟩
  rw [show (lost (s.clocked t)).ilm = Ilm.reset from rfl, emptied_slots]
  exact ⟨rfl, rfl, rfl, rfl⟩

/-! ### Departures of the payload lane (R5, R12) -/

theorem endReception_ends {s : State} {f : Frame} (hf : s.ftr.frame = some f) (he : f.payloadEnded = false) :
    endReception s = { s with
      ftr := { s.ftr with sync := .holdover, flywheel := 1,
                          frame := some { f with kind := .ended, fileAt := some (f.begun + s.ftr.payloadOffset) } },
      ilm := { s.ilm with fill := none } } := by
  unfold endReception
  rw [hf]
  exact if_neg (by rw [he]; simp)

/-- What an event of R12 finds: the payload of the frame in progress over, so that the next one is ended as it begins. -/
theorem endReception_waits {s : State} {f : Frame} (hf : s.ftr.frame = some f) (he : f.payloadEnded = true) :
    endReception s = { s with ftr := { s.ftr with sync := .holdover, flywheel := 1, nextEnded := true } } := by
  unfold endReception
  rw [hf]
  exact if_pos he

theorem laneGone_payload {s : State} (h : s.mod.straps.singleLane = false) : laneGone s 0 = payloadLaneGone s :=
  (if_neg (by rw [h]; simp)).trans (if_pos rfl)

theorem payloadLaneGone_locked {s : State} (h : s.ftr.sync = .locked) : payloadLaneGone s = endReception s := by
  unfold payloadLaneGone
  rw [h]

theorem payloadLaneGone_unmoved {s : State} (h : s.ftr.sync = .search ∨ s.ftr.sync = .holdover ∨ s.ftr.sync = .lost) :
    payloadLaneGone s = s := by
  unfold payloadLaneGone
  rcases h with h | h | h
  · rw [h]
  · rw [h]
  · rw [h]

/-- Claims stay settled as frame time goes on, LOCKED or in HOLDOVER. -/
theorem Settled.timed {s u : State} (h : Settled s) (hs : Timed s.ftr.sync) (hu : Timed u.ftr.sync)
    (hm : u.mod.mode = s.mod.mode) (hl : u.lnk.state = s.lnk.state) (hc : u.sub = s.sub) : Settled u := by
  have hin {x : SyncState} (hx : Timed x) : (x == .locked || x == .holdover) = true := by
    rcases hx with rfl | rfl
    · rfl
    · rfl
  unfold Settled claimsAllowed at *
  rw [hm, hl, hc, hin hu]
  rwa [hin hs] at h

theorem exec_lossOfLock {s u : State} {t : Instant} (hs : Awake s) (ha : (laneOf s 0).state = .aligned)
    (hu : laneGone (setLane (s.clocked t) 0 (enterAcquire (max s.now t) (laneOf s 0))) 0 = u) (hset : Settled u) :
    exec (.lossOfLock t 0) s = .next u := by
  refine exec_eq hs rfl ?_ hset
  dsimp only
  rw [show (laneOf (s.clocked t) 0).state = .aligned from ha]
  exact hu

theorem exec_fourthCorrupt {s u : State} {t : Instant} (hs : Awake s) (ha : (laneOf s 0).state = .aligned)
    (hr : (laneOf s 0).corruptRun = 3) (hu : laneGone (setLane (s.clocked t) 0 (enterTrack (laneOf s 0))) 0 = u)
    (hset : Settled u) : exec (.fourthCorruptControlWord t 0) s = .next u :=
  exec_eq hs rfl ((corruptWord_fourth (s := s.clocked t) ha (Nat.le_of_eq hr.symm)).trans hu) hset

/-- An ABSENT report on lane 0 in LOCKED is an event of R12. -/
theorem exec_absent {s u : State} {t : Instant} {q : Byte} (hs : Awake s) (ha : (laneOf s 0).state = .aligned)
    (hl : s.ftr.sync = .locked)
    (hu : endReception (setLane (s.clocked t) 0 { goodWord (laneOf s 0) with quality := q }) = u) (hset : Settled u) :
    exec (.frontEndStatus t 0 false q) s = .next u :=
  exec_eq hs rfl (((if_neg (not_not.2 ha)).trans (if_pos ⟨rfl, rfl, hl⟩)).trans hu) hset

/-- Settles O7. -/
theorem departureEndsReception : Obligations.DepartureEndsReception := by
  intro s t q hs hlane ha acquiring tracking reported
  refine ⟨fun f hl hf he => ?_, fun hsync => ?_⟩
  · intro ended
    have hgone {x : State} (h1 : x.ftr = s.ftr) (h2 : x.mod = s.mod) (h3 : x.ilm = s.ilm) : laneGone x 0 = ended x := by
      rw [laneGone_payload (by rw [h2]; exact hlane), payloadLaneGone_locked (by rw [h1]; exact hl),
        endReception_ends (by rw [h1]; exact hf) he, h1, h3]
    have hset {x : State} (h2 : x.mod = s.mod) (h3 : x.lnk = s.lnk) (h4 : x.sub = s.sub) : Settled (ended x) :=
      hs.2.timed (.inl hl) (.inr rfl) (congrArg (fun m => m.mode) h2) (congrArg (fun l => l.state) h3) h4
    refine ⟨exec_lossOfLock hs ha (hgone rfl rfl rfl) (hset rfl rfl rfl), fun hr => ?_, ?_⟩
    · exact exec_fourthCorrupt hs ha hr (hgone rfl rfl rfl) (hset rfl rfl rfl)
    · refine exec_absent hs ha hl ?_ (hset rfl rfl rfl)
      exact endReception_ends (s := setLane (s.clocked t) 0 _) hf he
  · have hgone {x : State} (h1 : x.ftr = s.ftr) (h2 : x.mod = s.mod) : laneGone x 0 = x := by
      rw [laneGone_payload (by rw [h2]; exact hlane), payloadLaneGone_unmoved (by rw [h1]; exact hsync)]
    exact ⟨exec_lossOfLock hs ha (hgone rfl rfl) (settled_setLane hs t 0 _),
      fun hr => exec_fourthCorrupt hs ha hr (hgone rfl rfl) (settled_setLane hs t 0 _)⟩

/-! ### Markers without frame time (R8, R9) -/

theorem waiting_none {s : State} (h : s.ftr.control.pairing ≠ .next ∨ s.ftr.control.held = []) : waiting s = [] := by
  unfold waiting
  rcases h with h | h
  · rw [if_neg h]
  · rw [h, ite_self]

theorem exec_marker {s u : State} {t : Instant} (hs : Awake s) (ha : (laneOf s 0).state = .aligned)
    (hu : markerArrival (setLane (s.clocked t) 0 (goodWord (laneOf s 0))) = u) (hset : Settled u) :
    exec (.frameStartMarker t 0) s = .next u :=
  exec_eq hs rfl (((if_neg (not_not.2 ha)).trans (if_pos rfl)).trans hu) hset

theorem markerArrival_untimed {s : State} (h : untimed s) : markerArrival s = beginUnnamed s := by
  unfold markerArrival
  rcases h with h | h
  · rw [h]
  · rw [h]

theorem ilm_unnamed (s : State) : (unnamed s).ilm = { s.ilm with fill := some [] } := rfl

/-- Claims stay settled where none may be held before or after. -/
theorem Settled.untimed {s u : State} (h : Settled s) (hs : ¬Timed s.ftr.sync) (hc : u.sub = s.sub) : Settled u := by
  refine .inr ?_
  rw [hc]
  refine h.resolve_left fun ha => hs ?_
  unfold claimsAllowed at ha
  simp only [Bool.and_eq_true, Bool.or_eq_true, beq_iff_eq] at ha
  exact ha.2

theorem controlMarker_eq (s : State) :
    controlMarker s = { s with ftr := { s.ftr with control :=
      { pairing := match s.ftr.frame with
          | some f => if s.now ≤ f.begun + 2000000 then .current else .next
          | none => .next,
        marked := true, words := 0, block := [], held := [] } } } := by
  unfold controlMarker
  cases s.ftr.frame with
  | none => rfl
  | some f =>
    by_cases h : s.now ≤ f.begun + 2000000
    · simp [h, setControl, setTracker, windowHalf]
    · simp [h, setControl, setTracker, windowHalf]

/-- Settles O13. -/
theorem markerEntersProvisional : Obligations.MarkerEntersProvisional := by
  intro s t hs
  refine ⟨fun ha hun hc => ?_, fun ha => ?_⟩
  · let c : State := setLane (s.clocked t) 0 (goodWord (laneOf s 0))
    have hrun : markerArrival c = unnamed c := by
      rw [markerArrival_untimed (s := c) hun, beginUnnamed_eq, waiting_none (s := c) hc]
      rfl
    have hw : Within [.time, .lanes, .tracker, .slots] s (unnamed c) :=
      ((within_clocked s t).mono.trans (within_setLane _ _ _).mono).trans (within_unnamed c).mono
    have hset : Settled (unnamed c) := by
      refine hs.2.untimed (fun h => ?_) rfl
      rcases hun with hu | hu
      · rw [hu] at h; exact h.elim nofun nofun
      · rw [hu] at h; exact h.elim nofun nofun
    have hftr := ftr_unnamed c
    refine ⟨_, exec_marker hs ha hrun hset, ?_, ?_, ?_, ?_, ?_, ?_, ?_, ilm_unnamed c, rfl, hw⟩
    · exact (congrArg Tracker.sync hftr :)
    · exact (congrArg Tracker.marker hftr :)
    · exact (congrArg Tracker.frame hftr :)
    · exact (congrArg Tracker.count hftr :)
    · exact (congrArg Tracker.expected hftr :)
    · exact (congrArg Tracker.releases hftr :)
    · exact (congrArg Tracker.payloadOffset hftr :)
  · refine exec_eq hs rfl (((if_neg (not_not.2 ha)).trans (if_neg (by decide))).trans ?_) (hs.2.congr rfl rfl rfl rfl rfl rfl)
    exact controlMarker_eq _

end Sys2Proof.Machine

/-! PROOFS. O14 and O15: the next frame, begun at a marker in its window or named as the window closes. -/

namespace Sys2Proof.Machine

-- one theorem at a time: elaborated side by side, they would hold more threads than the check allows
set_option Elab.async false

/-! ### The end of the frame in progress (R8) -/

/-- No trial frame is open. -/
def TrialClosed (s : State) : Prop := ∀ f, s.ftr.frame = some f → openTrial s f = false

/-- The frame in progress is over: the tracker has moved in that frame and the pending releases alone, and no fill area has
been opened. -/
structure FrameOver (a b : State) : Prop where
  scope : Within filing a b
  ftr : ∃ f rs, b.ftr = { a.ftr with frame := f, releases := rs }
  fill : a.ilm.fill = none → b.ilm.fill = none

theorem FrameOver.refl (a : State) : FrameOver a a := ⟨.refl _ a, ⟨_, _, rfl⟩, id⟩

theorem FrameOver.trans {a b c : State} (h : FrameOver a b) (k : FrameOver b c) : FrameOver a c where
  scope := h.scope.trans k.scope
  ftr := by
    obtain ⟨f, rs, hf⟩ := h.ftr
    obtain ⟨g, qs, hg⟩ := k.ftr
    exact ⟨g, qs, by rw [hg, hf]⟩
  fill hn := k.fill (h.fill hn)

theorem frameOver_setFrame (s : State) (f : Frame) : FrameOver s (setFrame s f) :=
  ⟨(within_setFrame s f).mono, ⟨some f, s.ftr.releases, rfl⟩, id⟩

theorem endControl_closed {s : State} (h : TrialClosed s) :
    endControl s = s ∨ ∃ f, s.ftr.frame = some f ∧ endControl s = setFrame s { f with controlEnded := true } := by
  unfold endControl
  cases hf : s.ftr.frame with
  | none => exact .inl rfl
  | some f =>
    dsimp only
    split
    · exact .inl rfl
    · exact .inr ⟨f, rfl, failIfUnnamed_closed (s := setFrame s { f with controlEnded := true }) rfl (h f hf)⟩

theorem frameOver_endControl {s : State} (h : TrialClosed s) : FrameOver s (endControl s) ∧ TrialClosed (endControl s) := by
  rcases endControl_closed h with he | ⟨f, hf, he⟩
  · rw [he]
    exact ⟨.refl s, h⟩
  · rw [he]
    refine ⟨frameOver_setFrame s _, fun g hg => ?_⟩
    cases hg
    exact h f hf

theorem frameOver_finishPayload (s : State) (f : Frame) : FrameOver s (finishPayload s f) := by
  let c : State := setFrame s { f with payloadEnded := true, fileAt := none }
  refine (frameOver_setFrame s _).trans (b := c) ?_
  cases hn : f.named with
  | true =>
    obtain ⟨hilm, hftr, -⟩ := issuePayloadEnd_files c (filedReceived f)
    rw [finishPayload_named hn]
    exact ⟨within_issuePayloadEnd _ _, ⟨_, _, hftr⟩, fun _ => congrArg Ilm.fill hilm⟩
  | false =>
    rw [finishPayload, if_neg (by rw [hn]; simp)]
    exact ⟨(within_clearFill c).mono, ⟨_, _, rfl⟩, fun _ => rfl⟩

theorem frameOver_endPayload {s : State} (h : TrialClosed s) : FrameOver s (endPayload s) := by
  by_cases hover : ∀ f, s.ftr.frame = some f → f.payloadEnded = true
  · rw [endPayload_over hover]
    exact .refl s
  · push Not at hover
    obtain ⟨f, hf, he⟩ := hover
    rw [endPayload_closed hf (by simpa using he) (h f hf)]
    exact frameOver_finishPayload s f

/-- Where no trial frame is open, the end of the frame in progress fails none. -/
theorem frameOver_endFrame {s : State} (h : TrialClosed s) : FrameOver s (endFrame s) := by
  obtain ⟨h1, h2⟩ := frameOver_endControl h
  exact h1.trans (frameOver_endPayload h2)

theorem trialClosed_of_locked {s : State} (h : s.ftr.sync = .locked) : TrialClosed s := fun f _ => by
  simp [openTrial, h]

theorem trialClosed_of_frame {s : State} (h : ∀ f, s.ftr.frame = some f → f.kind = .trial → f.failed = true) : TrialClosed s := by
  intro f hf
  by_cases hk : f.kind = .trial
  · simp [openTrial, h f hf hk]
  · exact openTrial_of_kind hk

/-! ### The frame start (R18, R149) -/

/-- What follows the claim review of a frame start. -/
theorem within_frameStart_rest (s : State) :
    Within [.store, .queue, .counters, .mapUnit, .cursors] (openClaims (noteStart s)) (frameStart s) :=
  ((within_cadencePoint _).mono.trans ((within_resync _ s.ftr.count).mono.trans (within_repeatLapsed _).mono)).trans
    ((within_ageOut _ s.ftr.count).mono.trans (within_releaseOutgoing _ s.ftr.count).mono)

theorem openClaims_allowed {s : State} (h : claimsAllowed s = true) :
    openClaims s = setClaims { s with sub := { s.sub with claimsOpen := true } } (reviewedClaims { s with sub := { s.sub with claimsOpen := true } }) := by
  have ha : claimsAllowed { s with sub := { s.sub with claimsOpen := true } } = true := h
  unfold openClaims claimReview
  rw [h, ha]
  rfl

theorem openClaims_barred {s : State} (h : claimsAllowed s = false) :
    openClaims s = { s with sub := { s.sub with claimsOpen := false } } := by
  unfold openClaims claimReview
  rw [h]
  exact if_neg (by simp)

theorem settled_openClaims {s : State} (h : Settled s) : Settled (openClaims s) := by
  cases ha : claimsAllowed s with
  | true => exact .inl (((within_openClaims s).claimsAllowed).trans ha)
  | false =>
    obtain ⟨hc, hl, -⟩ := h.resolve_left (by simp [ha])
    rw [openClaims_barred ha]
    exact .inr ⟨hc, hl, rfl⟩

theorem settled_frameStart {s : State} (h : Settled s) : Settled (frameStart s) :=
  (settled_openClaims (s := noteStart s) (h.congr rfl rfl rfl rfl rfl rfl)).within (within_frameStart_rest s)

/-- What a claim review leaves, at any foreground load: beyond the limit there is no spare capacity. -/
theorem claimsTaken_review (s : State) : ClaimsTaken s (setClaims s (reviewedClaims s)) := by
  by_cases hf : s.sub.foregroundLoad ≤ loadLimit
  · exact claimsTaken_setClaims hf
  · have hover : 480 < s.sub.foregroundLoad := Nat.not_le.1 hf
    refine ⟨fun x hx => ?_, rfl, rfl, fun hle => ?_, fun hle => ?_, fun x _ _ _ => ?_⟩
    · rcases mem_takeClaims hx with hx | hx
      · obtain ⟨hc, he⟩ := List.mem_filter.1 ((keptClaims_sublist s).subset hx)
        exact ⟨he, .inl hc⟩
      · obtain ⟨he, -, hp⟩ := mem_claimCandidates.1 hx
        exact ⟨he, .inr hp⟩
    · omega
    · omega
    · omega

/-- A claim review reads claims, table, peers and current map alone. -/
theorem ClaimsTaken.congr {a b u v : State} (h : ClaimsTaken a u) (hs : SameLoads a.maps.current b.maps.current)
    (hst : b.maps.current.state = a.maps.current.state) (ht : b.sub.table = a.sub.table) (hc : b.sub.claims = a.sub.claims)
    (hf : b.sub.foregroundLoad = a.sub.foregroundLoad) (hp : b.sub.peers = a.sub.peers)
    (hvc : v.sub.claims = u.sub.claims) (hvl : v.sub.claimLoad = u.sub.claimLoad)
    (hvf : v.sub.foregroundLoad = u.sub.foregroundLoad) : ClaimsTaken b v := by
  have hel (x : StreamId) : eligible b x = eligible a x := by
    simp only [eligible, inCurrentMap, isForeground, ht, hst, hs.isSome]
  have hpe (x : StreamId) : peerClaims b x = peerClaims a x := by
    unfold peerClaims
    rw [hp]
  have hgr (xs : List StreamId) : grainSum b xs = grainSum a xs := by
    rw [grainSum, hs.grainsOf]
    rfl
  have hfe : eligible b = eligible a := funext hel
  unfold ClaimsTaken at *
  simp only [hfe, hpe, hgr, hc, hf, hvc, hvl, hvf, hs.grainsOf]
  exact h

/-- The claims of a frame start where the conditions of R147 hold are those of a claim review. -/
theorem claimsTaken_frameStart {s : State} (h : claimsAllowed s = true) : ClaimsTaken s (frameStart s) := by
  have hw := within_frameStart_rest s
  have hopen := openClaims_allowed (s := noteStart s) h
  refine (claimsTaken_review { noteStart s with sub := { s.sub with claimsOpen := true } }).congr (fun _ => rfl) rfl rfl rfl rfl rfl
    ?_ ?_ ?_
  · rw [hw.claims, hopen]
    rfl
  · rw [hw.claimLoad, hopen]
    rfl
  · rw [hw.foregroundLoad, hopen]
    rfl

/-! ### The next frame, begun (R11, R14, R15) -/

/-- The frame `f` has begun with the next count and its frame start issued, the next marker expected at `m`. -/
def nextBegun (s : State) (f : Frame) (atMarker : Bool) (m : Instant) : State :=
  setMarker (frameStart (installFrame (advanceCount s) f atMarker)) m

theorem beginNamed_eq {s : State} (h : waiting s = []) (k : FrameKind) :
    beginNamed s k = nextBegun s (newFrame s.now k true (filingAt s k)) true (s.now + framePeriod) := by
  unfold beginNamed
  rw [h]
  rfl

theorem beginFlywheel_eq (s : State) (t : Instant) :
    beginFlywheel s t = nextBegun (countFlywheel s)
      (newFrame (t + windowHalf) .flywheel true (some (t + s.ftr.payloadOffset))) false (t + framePeriod) := rfl

section

variable (s : State) (f : Frame) (atMarker : Bool) (m : Instant)

theorem ftr_nextBegun :
    (nextBegun s f atMarker m).ftr =
      { s.ftr with count := s.ftr.count + 1, frame := some f, control := nextControl (advanceCount s) atMarker,
                   nextEnded := false, lastStart := some (s.ftr.count + 1), marker := some m } := by
  rw [nextBegun, ftr_setMarker, ftr_frameStart, ftr_installFrame]
  rfl

theorem fill_nextBegun :
    (nextBegun s f atMarker m).ilm.fill = if atMarker && isReceived f then some [] else s.ilm.fill := by
  rw [nextBegun, (within_setMarker _ m).ilm, (within_frameStart _).ilm]
  unfold installFrame
  dsimp only
  split
  · rfl
  · rfl

theorem within_begun : Within [.tracker, .slots] s (installFrame (advanceCount s) f atMarker) :=
  (within_advanceCount s).mono.trans (within_installFrame _ _ _)

theorem within_nextBegun :
    Within [.tracker, .slots, .claims, .store, .queue, .counters, .mapUnit, .cursors] s (nextBegun s f atMarker m) :=
  ((within_begun s f atMarker).mono.trans (within_frameStart _).mono).trans (within_setMarker _ m).mono

end

section

variable {s : State} (f : Frame) (atMarker : Bool) (m : Instant)

theorem settled_nextBegun (h : Settled s) : Settled (nextBegun s f atMarker m) := by
  have hw := within_begun s f atMarker
  have hsync : (installFrame (advanceCount s) f atMarker).ftr.sync = s.ftr.sync := by
    rw [ftr_installFrame]
    rfl
  have hi := settled_frameStart (h.congr hw.mode hw.linkState hsync hw.claims hw.claimLoad hw.claimsOpen)
  unfold nextBegun
  generalize frameStart (installFrame (advanceCount s) f atMarker) = b at hi
  exact hi.congr rfl rfl rfl rfl rfl rfl

theorem claimsTaken_nextBegun (h : claimsAllowed s = true) : ClaimsTaken s (nextBegun s f atMarker m) := by
  have hw := within_begun s f atMarker
  have hallowed : claimsAllowed (installFrame (advanceCount s) f atMarker) = true :=
    claimsAllowed_congr hw.mode hw.linkState (by rw [ftr_installFrame]; exact id) h
  have hmark := within_setMarker (frameStart (installFrame (advanceCount s) f atMarker)) m
  exact (claimsTaken_frameStart hallowed).congr (by rw [hw.maps]; exact fun _ => rfl) (by rw [hw.maps]) hw.table.symm hw.claims.symm
    hw.foregroundLoad.symm hw.peers.symm hmark.claims hmark.claimLoad hmark.foregroundLoad

end

/-- A claim review reads nothing that the end of a frame changes. -/
theorem ClaimsTaken.over {a b u : State} (h : ClaimsTaken b u) (hw : Within filing a b) (hm : MapsStand a b) : ClaimsTaken a u :=
  h.congr (.of_entries hm.entries.symm) hm.state.symm hw.table.symm hw.claims.symm hw.foregroundLoad.symm hw.peers.symm rfl rfl rfl

theorem FrameOver.settled {a b : State} (h : FrameOver a b) (ha : Settled a) : Settled b := by
  obtain ⟨f, rs, hf⟩ := h.ftr
  exact ha.congr h.scope.mode h.scope.linkState (by rw [hf]) h.scope.claims h.scope.claimLoad h.scope.claimsOpen

/-! ### A marker in its window (R11, R15) -/

theorem inWindow_of {s : State} {m : Instant} (hm : s.ftr.marker = some m) (h1 : m ≤ s.now + windowHalf)
    (h2 : s.now ≤ m + windowHalf) : inWindow s = true := by
  rw [inWindow, hm]
  exact decide_eq_true ⟨h1, h2⟩

theorem not_inWindow {s : State} {m : Instant} (hm : s.ftr.marker = some m)
    (h : ¬(m ≤ s.now + windowHalf ∧ s.now ≤ m + windowHalf)) : inWindow s = false := by
  rw [inWindow, hm]
  exact decide_eq_false h

theorem markerArrival_locked {s : State} (hl : s.ftr.sync = .locked) :
    markerArrival s = if inWindow s then beginNamed (endFrame s) .reception else s := by
  unfold markerArrival
  rw [hl]

theorem markerArrival_holdover {s : State} (hh : s.ftr.sync = .holdover) (hw : inWindow s = true) (hf : s.ftr.flywheel < 42)
    (he : (endFrame s).ftr.flywheel < 42) :
    markerArrival s = beginNamed (endFrame s) (if (endFrame s).ftr.nextEnded then .ended else .trial) := by
  unfold markerArrival
  rw [hh]
  dsimp only
  rw [if_neg (by rw [hw]; simpa using hf), if_neg (Nat.not_le.2 he)]

/-- The tracker as the frame after the one in progress at `c` begins at a marker arrival. -/
structure BegunFrom (c u : State) (kind : FrameKind) (fileAt : Option Instant) : Prop where
  sync : u.ftr.sync = c.ftr.sync
  flywheel : u.ftr.flywheel = c.ftr.flywheel
  count : u.ftr.count = c.ftr.count + 1
  marker : u.ftr.marker = some (c.now + 72000000)
  nextEnded : u.ftr.nextEnded = false
  frame : u.ftr.frame = some (newFrame c.now kind true fileAt)
  expected : u.ftr.expected = c.ftr.expected
  offset : u.ftr.payloadOffset = c.ftr.payloadOffset
  opened : isReceived (newFrame c.now kind true fileAt) = true → u.ilm.fill = some []
  idle : isReceived (newFrame c.now kind true fileAt) = false → c.ilm.fill = none → u.ilm.fill = none
  scope : Within (.store :: .queue :: .counters :: .cursors :: .claims :: filing) c u
  settled : Settled c → Settled u
  claims : claimsAllowed c = true → ClaimsTaken c u

theorem begunFrom_beginNamed {c e : State} (h : FrameOver c e) (hm : MapsStand c e)
    (hw : c.ftr.control.pairing ≠ .next ∨ c.ftr.control.held = []) (kind : FrameKind) :
    BegunFrom c (beginNamed e kind) kind (if kind = .ended then some (c.now + c.ftr.payloadOffset) else none) := by
  obtain ⟨f, rs, hf⟩ := h.ftr
  have hnow : e.now = c.now := h.scope.now
  have hwait : waiting e = [] := waiting_none (by rw [hf]; exact hw)
  have hfile : filingAt e kind = if kind = .ended then some (c.now + c.ftr.payloadOffset) else none := by
    rw [filingAt, hnow, hf]
  rw [beginNamed_eq hwait, hfile, hnow]
  generalize hg : newFrame c.now kind true (if kind = .ended then some (c.now + c.ftr.payloadOffset) else none) = g
  have hftr := ftr_nextBegun e g true (c.now + framePeriod)
  have hfill := fill_nextBegun e g true (c.now + framePeriod)
  rw [hf] at hftr
  rw [Bool.true_and] at hfill
  have hnext := within_nextBegun e g true (c.now + framePeriod)
  exact {
    sync := (congrArg Tracker.sync hftr :)
    flywheel := (congrArg Tracker.flywheel hftr :)
    count := (congrArg Tracker.count hftr :)
    marker := (congrArg Tracker.marker hftr :)
    nextEnded := (congrArg Tracker.nextEnded hftr :)
    frame := by rw [hg]; exact (congrArg Tracker.frame hftr :)
    expected := (congrArg Tracker.expected hftr :)
    offset := (congrArg Tracker.payloadOffset hftr :)
    opened := fun hr => by
      rw [hg] at hr
      rw [hfill, hr]
      rfl
    idle := fun hr hn => by
      rw [hg] at hr
      rw [hfill, hr]
      exact h.fill hn
    scope := h.scope.mono.trans hnext.mono
    settled := fun hs => settled_nextBegun g true _ (h.settled hs)
    claims := fun ha => (claimsTaken_nextBegun g true _
      (claimsAllowed_congr h.scope.mode h.scope.linkState (by rw [hf]; exact id) ha)).over h.scope hm }

/-- Settles O14. -/
theorem markerInWindowBeginsFrame : Obligations.MarkerInWindowBeginsFrame := by
  intro s t m hs ha hm lanes begun
  let c : State := setLane (s.clocked t) 0 (goodWord (laneOf s 0))
  have hc : Within [.time, .lanes] s c := (within_clocked s t).mono.trans (within_setLane _ _ _).mono
  have hcs : Settled c := hs.2.within hc
  have hbegun {u : State} {k : FrameKind} {a : Option Instant} (h : BegunFrom c u k a) : begun u k a :=
    ⟨h.count, h.marker, h.nextEnded, h.frame, h.expected, h.offset, h.scope.lanes, hc.mono.trans h.scope.mono⟩
  have hclaims {u : State} {k : FrameKind} {a : Option Instant} (h : BegunFrom c u k a) (ht : Timed s.ftr.sync)
      (h1 : s.mod.mode = .running) (h2 : s.lnk.state = .joined) : ClaimsTaken s u :=
    h.claims ((claimsAllowed_iff c).2 ⟨h1, h2, ht⟩)
  refine ⟨fun hw1 hw2 hwait => ?_, fun hl hout => ?_, fun f q hl hf he => ?_⟩
  · have hin : inWindow c = true := inWindow_of (s := c) hm hw1 hw2
    have hstand := stand_endFrame c
    refine ⟨fun hl => ?_, fun hh hfly hclosed => ?_⟩
    · have hb := begunFrom_beginNamed (frameOver_endFrame (trialClosed_of_locked (s := c) hl)) hstand hwait .reception
      have hrun : markerArrival c = beginNamed (endFrame c) .reception := (markerArrival_locked (s := c) hl).trans (if_pos hin)
      exact ⟨_, exec_marker hs ha hrun (hb.settled hcs), hb.sync.trans hl, hbegun hb, hb.opened rfl, hclaims hb (.inl hl)⟩
    · have hover := frameOver_endFrame (trialClosed_of_frame (s := c) hclosed)
      obtain ⟨f, rs, hf⟩ := hover.ftr
      have hended : (endFrame c).ftr.nextEnded = s.ftr.nextEnded := (congrArg Tracker.nextEnded hf :)
      have hfly' : (endFrame c).ftr.flywheel = s.ftr.flywheel := (congrArg Tracker.flywheel hf :)
      have hrun := markerArrival_holdover (s := c) hh hin hfly (hfly'.trans_lt hfly)
      have hb := begunFrom_beginNamed hover hstand hwait (if (endFrame c).ftr.nextEnded then .ended else .trial)
      refine ⟨_, exec_marker hs ha hrun (hb.settled hcs), hb.sync.trans hh, hb.flywheel, ?_, hclaims hb (.inr hh)⟩
      generalize beginNamed (endFrame c) _ = u at hb
      rw [hended] at hb
      split
      · rename_i hn
        rw [hn] at hb
        exact ⟨hbegun hb, hb.idle rfl⟩
      · rename_i hn
        rw [Bool.not_eq_true] at hn
        rw [hn] at hb
        exact ⟨hbegun hb, hb.opened rfl⟩
  · have hrun : markerArrival c = c :=
      (markerArrival_locked (s := c) hl).trans (if_neg (by rw [not_inWindow (s := c) hm hout]; simp))
    exact exec_marker hs ha hrun hcs
  · refine exec_absent hs ha hl (endReception_waits (s := setLane (s.clocked t) 0 _) hf he) ?_
    exact hs.2.timed (.inl hl) (.inr rfl) rfl rfl rfl

/-! ### A window that closes empty (R10, R14) -/

theorem exec_windowClose {s u : State} {t m : Instant} (hs : Awake s) (hm : s.ftr.marker = some m)
    (hd : m + 2000000 ≤ max s.now t) (hu : closeWindow (s.clocked t) m = u) (hset : Settled u) :
    exec (.markerWindowClose t) s = .next u := by
  refine exec_eq hs rfl ?_ hset
  rw [show (s.clocked t).ftr.marker = some m from hm]
  exact (if_pos hd).trans hu

theorem closeWindow_locked {s : State} (h : s.ftr.sync = .locked) (t : Instant) :
    closeWindow s t = beginFlywheel (setTracker (endFrame s) { (endFrame s).ftr with flywheel := 0, nextEnded := false }) t := by
  unfold closeWindow
  rw [h]

theorem closeWindow_holdover {s : State} (h : s.ftr.sync = .holdover) (hf : s.ftr.flywheel < 42)
    (he : (endFrame s).ftr.flywheel < 42) (t : Instant) : closeWindow s t = beginFlywheel (endFrame s) t := by
  unfold closeWindow
  rw [h]
  dsimp only
  rw [if_neg (Nat.not_le.2 hf), if_neg (Nat.not_le.2 he)]

theorem closeWindow_provisional {s : State} (h : s.ftr.sync = .provisional) (t : Instant) :
    closeWindow s t = returnToSearch s := by
  unfold closeWindow
  rw [h]

/-- The tracker as the flywheel names the frame whose marker was missed at `m`, once the frame in progress at `c` is over. -/
structure Missed (c u : State) (m : Instant) (flywheel : Nat) : Prop where
  sync : u.ftr.sync = .holdover
  count : u.ftr.count = c.ftr.count + 1
  flywheel : u.ftr.flywheel = flywheel
  marker : u.ftr.marker = some (m + 72000000)
  nextEnded : u.ftr.nextEnded = false
  frame : u.ftr.frame = some (newFrame (m + 2000000) .flywheel true (some (m + c.ftr.payloadOffset)))
  offset : u.ftr.payloadOffset = c.ftr.payloadOffset
  scope : Within (.store :: .queue :: .counters :: .cursors :: .claims :: filing) c u
  settled : Settled c → Settled u

theorem missed_beginFlywheel {c e : State} {f : Option Frame} {rs : List (FrameCount × Instant)} {w : Nat} {n : Bool}
    (hw : Within filing c e)
    (hf : e.ftr = { c.ftr with frame := f, releases := rs, flywheel := w, nextEnded := n }) (ht : Timed c.ftr.sync)
    (m : Instant) : Missed c (beginFlywheel e m) m (if n then w else w + 1) := by
  have hsync : e.ftr.sync = c.ftr.sync := (congrArg Tracker.sync hf :)
  have hoffset : e.ftr.payloadOffset = c.ftr.payloadOffset := (congrArg Tracker.payloadOffset hf :)
  have hfly : (countFlywheel e).ftr.flywheel = if n then w else w + 1 := by
    show (if e.ftr.nextEnded then e.ftr.flywheel else e.ftr.flywheel + 1) = _
    rw [hf]
  have hcount : e.ftr.count = c.ftr.count := (congrArg Tracker.count hf :)
  rw [beginFlywheel_eq, hoffset]
  have hflywheel : Within [.tracker] e (countFlywheel e) := within_setTracker e _
  have hset (hs : Settled c) : Settled (countFlywheel e) :=
    (hs.congr hw.mode hw.linkState hsync hw.claims hw.claimLoad hw.claimsOpen).timed (hsync ▸ ht) (.inr rfl) rfl rfl rfl
  have hsync' : (countFlywheel e).ftr.sync = .holdover := rfl
  have hcount' : (countFlywheel e).ftr.count = c.ftr.count := hcount
  have hoffset' : (countFlywheel e).ftr.payloadOffset = c.ftr.payloadOffset := hoffset
  generalize hg : newFrame (m + windowHalf) .flywheel true (some (m + c.ftr.payloadOffset)) = g
  generalize countFlywheel e = b at *
  have hftr := ftr_nextBegun b g false (m + framePeriod)
  exact {
    sync := (congrArg Tracker.sync hftr :).trans hsync'
    count := (congrArg Tracker.count hftr :).trans (congrArg (· + 1) hcount')
    flywheel := (congrArg Tracker.flywheel hftr :).trans hfly
    marker := (congrArg Tracker.marker hftr :)
    nextEnded := (congrArg Tracker.nextEnded hftr :)
    frame := by rw [show m + 2000000 = m + windowHalf from rfl, hg]; exact (congrArg Tracker.frame hftr :)
    offset := (congrArg Tracker.payloadOffset hftr :).trans hoffset'
    scope := (hw.mono.trans hflywheel.mono).trans (within_nextBegun b g false _).mono
    settled := fun hs => settled_nextBegun g false _ (hset hs) }

/-- Settles O15. -/
theorem windowClosesIntoHoldover : Obligations.WindowClosesIntoHoldover := by
  intro s t m hs hm hd
  have hc : Within [.time] s (s.clocked t) := within_clocked s t
  have hcs : Settled (s.clocked t) := hs.2.within hc
  refine ⟨fun h => ?_, fun hp => ?_⟩
  · have hover : FrameOver (s.clocked t) (endFrame (s.clocked t)) :=
      frameOver_endFrame (h.elim (fun hl => trialClosed_of_locked (s := s.clocked t) hl)
        fun hh => trialClosed_of_frame (s := s.clocked t) hh.2.2)
    obtain ⟨f, rs, hf⟩ := hover.ftr
    have hclosed : ∃ u, closeWindow (s.clocked t) m = u ∧ Missed (s.clocked t) u m (if s.ftr.sync = .locked then 1
        else if s.ftr.nextEnded then s.ftr.flywheel else s.ftr.flywheel + 1) := by
      rcases h with hl | ⟨hh, hfly, -⟩
      · rw [if_pos hl]
        refine ⟨_, closeWindow_locked (s := s.clocked t) hl m, ?_⟩
        exact missed_beginFlywheel (w := 0) (n := false) (hover.scope.trans (within_setTracker _ _).mono)
          (by rw [hf]; rfl) (.inl hl) m
      · rw [if_neg (by rw [hh]; decide)]
        have hfly' : (endFrame (s.clocked t)).ftr.flywheel = s.ftr.flywheel := (congrArg Tracker.flywheel hf :)
        exact ⟨_, closeWindow_holdover (s := s.clocked t) hh hfly (hfly'.trans_lt hfly) m,
          missed_beginFlywheel hover.scope hf (.inr hh) m⟩
    obtain ⟨u, hu, hb⟩ := hclosed
    exact ⟨u, exec_windowClose hs hm hd hu (hb.settled hcs), hb.sync, hb.count, hb.flywheel, hb.marker, hb.nextEnded, hb.frame,
      hb.offset, hc.mono.trans hb.scope.mono⟩
  · have hw : Within [.time, .tracker, .slots] s (returnToSearch (s.clocked t)) :=
      hc.mono.trans (within_returnToSearch _).mono
    refine ⟨_, exec_windowClose hs hm hd (closeWindow_provisional (s := s.clocked t) hp m) (hs.2.untimed (fun ht => ?_) rfl), rfl,
      rfl, rfl, rfl, rfl, rfl, hw⟩
    rw [hp] at ht
    exact ht.elim nofun nofun

end Sys2Proof.Machine

/-! PROOFS. O11: control cell words, the blocks they complete, and the FRAME record that locks the tracker. -/

namespace Sys2Proof.Machine

-- one theorem at a time: elaborated side by side, they would hold more threads than the check allows
set_option Elab.async false

/-- A command that finds the part awake does what its own function does, and settles the claims. -/
theorem exec_settled {c : Instr} {s u : State} {t : Instant} {f : State → State} (hs : Awake s)
    (he : exec c s = .next (live t s f)) (hf : f (s.clocked t) = u) : exec c s = .next (settleClaims u) := by
  rw [he, live_awake hs.1, hf]

/-! ### Control cell words (R8) -/

/-- A control cell word on a lane whose control words are taken, as its command meets it. -/
theorem exec_controlWord {s : State} {t : Instant} {i : LaneId} {w : CellWord} {b : ControlBlock} (hs : Awake s)
    (ha : (laneOf s i).state = .aligned) (hi : s.mod.straps.singleLane = true ∨ (i = 1 ∧ s.ftr.control.marked = true)) :
    exec (.cellWord t i .control w b) s =
      .next (settleClaims (takeControlWord (setLane (s.clocked t) i (countWord (laneOf s i))) w b)) := by
  refine exec_settled hs rfl ((if_neg (not_not.2 ha)).trans ((if_neg ?_).trans (if_pos ?_)))
  · rcases hi with hi | ⟨rfl, -⟩
    · simp [areaAgrees, hi]
    · simp [areaAgrees]
  · exact hi.imp id fun h => h.2

theorem takeControlWord_current {s : State} (hp : s.ftr.control.pairing = .current) (w : CellWord) (b : ControlBlock) :
    takeControlWord s w b = countControlWord s (controlOpen s) w b := by
  unfold takeControlWord
  dsimp only
  rw [hp]

/-- A word before the last of its area. -/
theorem countControlWord_below {s : State} (hw : s.ftr.control.words < 383) (kept : Bool) (w : CellWord) (b : ControlBlock) :
    countControlWord s kept w b =
      blockDone (setControl s (wordCounted s.ftr.control kept w)) s.ftr.control kept w b := by
  unfold countControlWord
  dsimp only
  rw [if_neg (show ¬384 ≤ s.ftr.control.words by omega), if_neg]
  rintro ⟨h, -⟩
  have : s.ftr.control.words + 1 = 384 := h
  omega

theorem blockDone_lost (s : State) (c : ControlPath) (w : CellWord) (b : ControlBlock) : blockDone s c false w b = s :=
  if_neg fun h => by cases h.1

theorem blockDone_within {s : State} {c : ControlPath} (h : (c.words + 1) % 48 ≠ 0) (kept : Bool) (w : CellWord)
    (b : ControlBlock) : blockDone s c kept w b = s := if_neg fun k => h k.2.1

theorem blockDone_complete {s : State} {c : ControlPath} (h : (c.words + 1) % 48 = 0) (hl : c.block.length = 47) (w : CellWord)
    (b : ControlBlock) : blockDone s c true w b = takeBlock s b := by
  refine if_pos ⟨rfl, h, ?_⟩
  show (c.block ++ [w]).length = 48
  simp [hl]

theorem controlOpen_of {s : State} {f : Frame} (hf : s.ftr.frame = some f) (hr : isReceived f = true) :
    controlOpen s = !f.controlEnded := by
  rw [controlOpen, hf]
  dsimp only
  rw [hr, Bool.true_and]

/-- The word that completes a control block hands it to what it carries. -/
theorem exec_block {s : State} {i : LaneId} {f : Frame} (h : CompletesBlock s i f) (t : Instant) (w : CellWord)
    (b : ControlBlock) :
    exec (.cellWord t i .control w b) s = .next (settleClaims (takeBlock (blockCounted s t i) b)) := by
  obtain ⟨hs, ha, hi, hf, hr, hopen, hp, hw, h48, hl⟩ := h
  let c : State := setLane (s.clocked t) i (countWord (laneOf s i))
  have hkept : controlOpen c = true := by rw [controlOpen_of (s := c) hf hr, hopen]; rfl
  have hcount : wordCounted s.ftr.control true w = { s.ftr.control with words := s.ftr.control.words + 1, block := [] } := by
    rw [wordCounted, if_pos h48]
  have hdone : takeControlWord c w b = takeBlock (blockCounted s t i) b := by
    rw [takeControlWord_current (s := c) hp, hkept, countControlWord_below (s := c) hw,
      blockDone_complete (c := c.ftr.control) h48 hl]
    refine congrArg (fun x => takeBlock x b) ?_
    show setControl c (wordCounted s.ftr.control true w) = _
    rw [hcount]
    rfl
  rw [exec_controlWord hs ha hi, hdone]

theorem within_blockCounted (s : State) (t : Instant) (i : LaneId) : Within [.time, .lanes, .tracker] s (blockCounted s t i) :=
  ((within_clocked s t).mono.trans (within_setLane _ _ _).mono).trans (within_setTracker _ _).mono

theorem settled_blockCounted {s : State} (h : Awake s) (t : Instant) (i : LaneId) : Settled (blockCounted s t i) :=
  h.2.congr rfl rfl rfl rfl rfl rfl

/-! ### Words after the control end (R8, R10) -/

/-- Once the control end has come, a word moves the control path alone. -/
theorem takeControlWord_closed {s : State} {f : Frame} (hf : s.ftr.frame = some f) (he : f.controlEnded = true)
    (w : CellWord) (b : ControlBlock) : ∃ c, takeControlWord s w b = setControl s c := by
  have hclosed : controlOpen s = false := by
    rw [controlOpen, hf]
    simp [he]
  have hend (c : ControlPath) : endControl (setControl s c) = setControl s c := by
    unfold endControl
    rw [show (setControl s c).ftr.frame = some f from hf]
    exact if_pos he
  unfold takeControlWord
  dsimp only
  split
  · exact ⟨s.ftr.control, rfl⟩
  · unfold countControlWord
    dsimp only
    rw [hclosed, blockDone_lost]
    split
    · exact ⟨s.ftr.control, rfl⟩
    · split
      · exact ⟨_, hend _⟩
      · exact ⟨_, rfl⟩
  · split
    · exact ⟨_, rfl⟩
    · exact ⟨s.ftr.control, rfl⟩

/-- A cell word of the control area moves nothing but its lane and the control path, once the control end has come. -/
theorem exec_controlWord_closed {s : State} (t : Instant) (i : LaneId) (w : CellWord) (b : ControlBlock) {f : Frame}
    (hs : Awake s) (hf : s.ftr.frame = some f) (he : f.controlEnded = true) :
    ∃ x c, exec (.cellWord t i .control w b) s = .next (setControl x c) ∧ Within [.time, .lanes] s x := by
  let s1 : State := setLane (s.clocked t) i (countWord (laneOf s i))
  have h0 : Within [.time, .lanes] s (s.clocked t) := (within_clocked s t).mono
  have h1 : Within [.time, .lanes] s s1 := h0.trans (within_setLane _ _ _).mono
  have hdone {x : State} {c : ControlPath} (hx : Within [.time, .lanes] s x)
      (hrun : (if (laneOf s i).state ≠ .aligned then s.clocked t else if !areaAgrees s1 i .control then s1
        else if s1.mod.straps.singleLane ∨ s1.ftr.control.marked then takeControlWord s1 w b else s1) = setControl x c) :
      ∃ x c, exec (.cellWord t i .control w b) s = .next (setControl x c) ∧ Within [.time, .lanes] s x :=
    ⟨x, c, exec_eq hs rfl hrun ((hs.2.within hx).congr rfl rfl rfl rfl rfl rfl), hx⟩
  obtain ⟨c, hc⟩ := takeControlWord_closed (s := s1) hf he w b
  by_cases ha : (laneOf s i).state ≠ .aligned
  · exact hdone (c := s.ftr.control) h0 (if_pos ha)
  · by_cases hg : (!areaAgrees s1 i .control) = true
    · exact hdone (c := s.ftr.control) h1 ((if_neg ha).trans (if_pos hg))
    · by_cases hm : s1.mod.straps.singleLane = true ∨ s1.ftr.control.marked = true
      · exact hdone h1 (((if_neg ha).trans ((if_neg hg).trans (if_pos hm))).trans hc)
      · exact hdone (c := s.ftr.control) h1 ((if_neg ha).trans ((if_neg hg).trans (if_neg hm)))

/-! ### FRAME records (R10, R20) -/

theorem takeBlock_frame {s : State} {f : Frame} {r : FrameRecord} (hf : s.ftr.frame = some f) (hseen : f.recordSeen = false)
    (hv : frameRecordValid r = true) :
    takeBlock s (.frame r) =
      passToMap (trackRecord (setFrame s { f with recordSeen := true }) { f with recordSeen := true } r) r := by
  refine (if_pos hv).trans ?_
  unfold takeFrameRecord
  rw [hf]
  exact if_neg (by rw [hseen]; simp)

theorem trackRecord_provisional {s : State} {r : FrameRecord} (h : s.ftr.sync = .provisional)
    (he : s.ftr.expected = none ∨ s.ftr.expected = some r.ensemble) (f : Frame) : trackRecord s f r = lock s r := by
  unfold trackRecord
  rw [h]
  exact if_pos he

theorem ftr_lock {s : State} (r : FrameRecord) :
    (lock s r).ftr = { s.ftr with sync := .locked, count := r.count, expected := some r.ensemble, flywheel := 0,
                                  frame := s.ftr.frame.map (fun f => { f with named := true }), lastStart := some r.count } := by
  rw [lock, ftr_frameStart]
  rfl

theorem statusTimer_lock (s : State) (r : FrameRecord) : (lock s r).mod.statusTimer = none := by
  rw [lock, (within_frameStart _).statusTimer]
  rfl

/-- Settles O11. -/
theorem frameRecordLocks : Obligations.FrameRecordLocks := by
  refine ⟨?_, ?_⟩
  · intro s t i w f r hs ha hi hsync hf hr hopen hseen hp hw h48 hl hv he
    have hblock : CompletesBlock s i f := ⟨hs, ha, hi, hf, hr, hopen, hp, hw, h48, hl⟩
    let b : State := setFrame (blockCounted s t i) { f with recordSeen := true }
    have hb : Within [.time, .lanes, .tracker] s b := (within_blockCounted s t i).trans (within_setFrame _ _).mono
    have htrack : takeBlock (blockCounted s t i) (.frame r) = passToMap (lock b r) r := by
      rw [takeBlock_frame (s := blockCounted s t i) hf hseen hv, trackRecord_provisional (s := b) hsync he]
    have hwithin := ((hb.mono (qs := [.time, .lanes, .tracker, .statusTimer, .scheduler, .mapUnit, .store, .queue, .counters,
      .cursors, .table, .claims])).trans (within_lock b r).mono).trans
      ((within_passToMap (lock b r) r).mono.trans (within_settleClaims _).mono)
    have hkept := (within_passToMap (lock b r) r).trans (within_settleClaims _).mono
    refine ⟨_, exec_block hblock t w _, ?_, ?_, ?_⟩
    · rw [htrack, hkept.ftr, ftr_lock]
      rfl
    · rw [htrack, hkept.statusTimer, statusTimer_lock]
    · rw [htrack]
      exact hwithin
  · intro s t i w b f hs _ hf he
    obtain ⟨x, c, hrun, hx⟩ := exec_controlWord_closed t i w b hs hf he
    refine ⟨_, hrun, ?_, hx.mono.trans (within_setControl x c).mono⟩
    show { x.ftr with control := c } = { s.ftr with control := c }
    rw [hx.ftr]

end Sys2Proof.Machine

/-! PROOFS. What a change of the maps makes of parcel records, jobs and the count of slips (R31, R37, R38). -/

namespace Sys2Proof.Machine

-- one theorem at a time: elaborated side by side, they would hold more threads than the check allows
set_option Elab.async false

/-! ### Records of the store, thinned out -/

/-- Every record of `b` is one of `a`, SPEC_HELD only if it was; no slip has been counted. -/
structure Thinned (a b : State) : Prop where
  records : ∀ r ∈ b.pst.records, ∃ q ∈ a.pst.records, q.stream = r.stream ∧ q.frame = r.frame ∧
    (r.state = .specHeld → q.state = .specHeld)
  slips : b.mod.counters.slips = a.mod.counters.slips

theorem Thinned.of_sublist {a b : State} (h : b.pst.records.Sublist a.pst.records)
    (hs : b.mod.counters.slips = a.mod.counters.slips) : Thinned a b :=
  ⟨fun r hr => ⟨r, h.subset hr, rfl, rfl, id⟩, hs⟩

theorem Thinned.refl (a : State) : Thinned a a := .of_sublist (.refl _) rfl

theorem Thinned.trans {a b c : State} (h : Thinned a b) (k : Thinned b c) : Thinned a c where
  records r hr := by
    obtain ⟨q, hq, hqs, hqf, hqh⟩ := k.records r hr
    obtain ⟨p, hp, hps, hpf, hph⟩ := h.records q hq
    exact ⟨p, hp, hps.trans hqs, hpf.trans hqf, fun hh => hph (hqh hh)⟩
  slips := k.slips.trans h.slips

theorem Thinned.within {ps : List Part} {a b : State} (h : Within ps a b) (hs : Part.store ∉ ps := by decide)
    (hc : Part.counters ∉ ps := by decide) : Thinned a b :=
  .of_sublist (by rw [h.records hs]) (by rw [h.counters hc])

theorem Thinned.ite {s a b : State} {c : Prop} [Decidable c] (ha : c → Thinned s a) (hb : ¬c → Thinned s b) :
    Thinned s (if c then a else b) := keeps_ite ha hb

theorem Thinned.foldl {α : Type} {f : State → α → State} (h : ∀ s x, Thinned s (f s x)) (l : List α) (s : State) :
    Thinned s (l.foldl f s) := by
  induction l generalizing s with
  | nil => exact .refl s
  | cons x xs ih => exact (h s x).trans (ih _)

theorem thinned_updateRecord (s : State) (x : StreamId) (f : FrameCount) {g : ParcelRecord → ParcelRecord}
    (hg : ∀ r, (g r).stream = r.stream ∧ (g r).frame = r.frame ∧ ((g r).state = .specHeld → r.state = .specHeld)) :
    Thinned s (updateRecord s x f g) := by
  refine ⟨fun r hr => ?_, rfl⟩
  obtain ⟨q, hq, rfl⟩ := List.mem_map.1 hr
  refine ⟨q, hq, ?_⟩
  split
  · obtain ⟨h1, h2, h3⟩ := hg q
    exact ⟨h1.symm, h2.symm, h3⟩
  · exact ⟨rfl, rfl, id⟩

theorem thinned_freeRecord (s : State) (x : StreamId) (f : FrameCount) : Thinned s (freeRecord s x f) :=
  .of_sublist (freeRecord_records_sublist s x f) (by rw [(within_freeRecord s x f).counters])

theorem thinned_freeRecords (s : State) (p : ParcelRecord → Bool) : Thinned s (freeRecords s p) :=
  .foldl (fun s (r : ParcelRecord) => thinned_freeRecord s r.stream r.frame) _ s

theorem thinned_tellStore (s : State) (e : Entry) : Thinned s (tellStore s e) :=
  .of_sublist (tellStore_records_sublist s e) (by rw [(within_tellStore s e).counters])

theorem thinned_insertNew (s : State) (e : Entry) : Thinned s (insertNew s e) := .within (within_insertNew s e)
theorem thinned_rewriteHeld (s : State) (e : Entry) : Thinned s (rewriteHeld s e) := .within (within_rewriteHeld s e)
theorem thinned_countTraceDrop (s : State) : Thinned s (countTraceDrop s) := .of_sublist (.refl _) rfl
theorem thinned_countQueueDrop (s : State) : Thinned s (countQueueDrop s) := .of_sublist (.refl _) rfl

theorem thinned_offerEntry (s : State) (e : Entry) : Thinned s (offerEntry s e).1 := by
  rcases offerEntry_cases s e with ⟨-, ho⟩ | ⟨-, -, ⟨-, ho⟩ | ⟨-, ho⟩ | ⟨-, -, ho⟩⟩ | ⟨-, -, ⟨-, -, ho⟩ | ⟨-, ho⟩ | ⟨-, last, -, hl⟩⟩
  · rw [ho]; exact .refl s
  · rw [ho]; exact (thinned_rewriteHeld s e).trans (thinned_countTraceDrop _)
  · rw [ho]; exact thinned_rewriteHeld s e
  · rw [ho]; exact .refl s
  · rw [ho]; exact thinned_countTraceDrop s
  · rw [ho]; exact thinned_insertNew s e
  · rcases hl with ⟨-, ho⟩ | ⟨-, ho⟩
    · rw [ho]
      have h1 : Thinned s (countQueueDrop (setQueue s s.lnk.queue.dropLast)) :=
        (Thinned.within (within_setQueue s _)).trans (thinned_countQueueDrop _)
      exact (h1.trans (thinned_insertNew _ e)).trans (thinned_tellStore _ last)
    · rw [ho]; exact thinned_countQueueDrop s

theorem thinned_testNotice (s : State) : Thinned s (testNotice s) := by
  have ho := thinned_offerEntry s (noticeEntry s (!s.maps.wantCurrent))
  exact .ite (fun _ => .ite (fun _ => ho.trans (.within (within_noticeSent _ _))) fun _ => ho) fun _ => .refl s

theorem thinned_offer (s : State) (e : Entry) : Thinned s (offer s e).1 := by
  have ho := thinned_offerEntry s e
  unfold offer
  dsimp only
  split
  · exact ho.trans (thinned_testNotice _)
  · exact ho

theorem thinned_reportIdle (s : State) : Thinned s (reportIdle s) := .ite (fun _ => thinned_offer s _) fun _ => .refl s

theorem thinned_queueParcel (s : State) (r : ParcelRecord) : Thinned s (queueParcel s r) := by
  unfold queueParcel
  dsimp only
  split
  · exact (thinned_offer s _).trans (thinned_updateRecord _ _ _ fun _ => ⟨rfl, rfl, nofun⟩)
  · exact (thinned_offer s _).trans (thinned_freeRecord _ _ _)

theorem thinned_handOver (s : State) (r : ParcelRecord) : Thinned s (handOver s r) := by
  have hheld : Thinned s (updateRecord s r.stream r.frame (fun r => { r with state := .held })) :=
    thinned_updateRecord s _ _ fun _ => ⟨rfl, rfl, nofun⟩
  unfold handOver
  split
  · exact .ite (fun _ => thinned_queueParcel s r) fun _ => hheld
  · exact hheld

theorem thinned_answerDeadline (s : State) (x : StreamId) (f : FrameCount) : Thinned s (answerDeadline s x f) := by
  have hgap (y : GapReason) : Thinned s (queueGap s x f y) := thinned_offer s _
  exact .ite (fun _ => .refl s) fun _ => .ite (fun _ => (hgap _).trans (thinned_freeRecord _ x f)) fun _ =>
    .ite (fun _ => hgap _) fun _ => hgap _

theorem thinned_updateCursor (s : State) (x : StreamId) (g : Cursor → Cursor) : Thinned s (updateCursor s x g) :=
  .within (within_updateCursor s x g)

theorem thinned_armDeadline (s : State) (x : StreamId) (f : FrameCount) : Thinned s (armDeadline s x f) := by
  unfold armDeadline
  split
  · exact thinned_updateCursor s x _
  split
  · exact thinned_updateCursor s x _
  · exact .ite (fun _ => thinned_updateCursor s x _) fun _ =>
      (Thinned.ite (fun _ => .refl s) fun _ => thinned_answerDeadline s x f).trans (thinned_updateCursor _ x _)

theorem thinned_reviewCursor (s : State) (x : StreamId) : Thinned s (reviewCursor s x) := by
  unfold reviewCursor
  split
  · exact .refl s
  split
  · exact .ite (fun _ => .refl s) fun _ => (thinned_updateCursor s x _).trans (.within (within_unsetCursor _ x))
  dsimp only
  have h1 := thinned_updateCursor s x (fun c => { c with absent := false })
  split
  · exact h1
  · refine .ite (fun _ => .ite (fun _ => h1.trans (thinned_armDeadline _ x _)) fun _ => h1) fun _ => .ite (fun _ => h1) fun _ => ?_
    exact (h1.trans (thinned_updateCursor _ x _)).trans (.within (within_withdraw _ _))

theorem thinned_mapChanged (s : State) : Thinned s (mapChanged s) :=
  ((Thinned.within (within_trimMarks s)).trans (.within (within_classReview _))).trans
    ((Thinned.within (within_claimReview _)).trans (.foldl thinned_reviewCursor _ _))

theorem thinned_settleMaps (s : State) : Thinned s (settleMaps s) :=
  ((thinned_mapChanged s).trans (.within (within_currentReady _))).trans (.within (within_nextReady _))

theorem thinned_placeRecord (s : State) (r : ParcelRecord) : Thinned s (placeRecord s r) := by
  have hoffer : Thinned s (setOffer s r) := thinned_updateRecord s _ _ fun _ => ⟨rfl, rfl, id⟩
  exact .ite (fun _ => thinned_updateRecord s _ _ fun _ => ⟨rfl, rfl, nofun⟩) fun _ =>
    .ite (fun _ => hoffer.trans (thinned_updateRecord _ _ _ fun _ => ⟨rfl, rfl, nofun⟩)) fun _ =>
      hoffer.trans (thinned_handOver _ r)

theorem thinned_confirmRecord (s : State) (x : StreamId) (f : FrameCount) : Thinned s (confirmRecord s x f) := by
  have h1 : Thinned s (updateRecord s x f (fun r => { r with speculative := false })) :=
    thinned_updateRecord s _ _ fun _ => ⟨rfl, rfl, id⟩
  unfold confirmRecord
  dsimp only
  split
  · exact h1
  · exact .ite (fun _ => h1.trans (thinned_freeRecord _ x f)) fun _ => h1.trans (thinned_placeRecord _ _)

theorem thinned_confirmRecords (s : State) : Thinned s (confirmRecords s) :=
  .foldl (fun s (r : ParcelRecord) => thinned_confirmRecord s r.stream r.frame) _ s

theorem thinned_undoSpeculation (s : State) (xs : List StreamId) : Thinned s (undoSpeculation s xs) :=
  ((Thinned.within (within_setJobs s _)).trans (thinned_freeRecords _ _)).trans
    (.foldl (fun s x => .within (within_restoreStream s x)) xs _)

/-! ### What a FRAME record does at the map unit, step by step (R26, R27, R35) -/

/-- A predicate that each step of the map unit's work on a FRAME record keeps. -/
structure MapSteps (P : State → Prop) : Prop where
  maps : ∀ {s} u, P s → P (setMaps s u)
  changed : ∀ {s}, P s → P (mapChanged s)
  catchUp : ∀ {s} d, P s → P (catchUp s d)
  error : ∀ {s}, P s → P (countControlError s)
  confirmJobs : ∀ {s}, P s → P (confirmJobs s)
  confirmRecords : ∀ {s}, P s → P (confirmRecords s)
  undo : ∀ {s} xs, P s → P (undoSpeculation s xs)
  recreate : ∀ {s} c, P s → P (recreateFrom s c)

namespace MapSteps

variable {P : State → Prop} (k : MapSteps P) {s : State}
include k

theorem settleMaps (h : P s) : P (settleMaps s) := by
  have hcurrent {s : State} (h : P s) : P (currentReady s) := by
    unfold currentReady
    split
    · exact keeps_ite (fun _ => k.catchUp _ (k.maps _ h)) fun _ => h
    · exact h
  have hnext {s : State} (h : P s) : P (nextReady s) := by
    unfold nextReady
    split
    · exact keeps_ite (fun _ => k.catchUp _ (k.maps _ h)) fun _ => h
    · exact h
  exact hnext (hcurrent (k.changed h))

theorem backOut (h : P s) (how : Settlement) : P (backOut s how) := by
  unfold Machine.backOut
  split
  · exact k.settleMaps (k.recreate _ (k.maps _ (k.undo _ h)))
  · exact k.settleMaps (k.maps _ h)

theorem confirm (h : P s) : P (confirm s) := k.settleMaps (k.confirmRecords (k.confirmJobs (k.maps _ h)))

theorem weighRecord (h : P s) (r : FrameRecord) : P (weighRecord s r) :=
  keeps_ite (fun _ => keeps_ite (fun _ => k.confirm h) fun _ => keeps_ite (fun _ => k.backOut h _) fun _ => k.backOut h _)
    fun _ => h

theorem takeCurrentFields (h : P s) (r : FrameRecord) : P (takeCurrentFields s r).1 := by
  have hnew (m : MuxMap) : P (Machine.settleMaps (setCurrent s m)) := k.settleMaps (k.maps _ h)
  unfold Machine.takeCurrentFields
  dsimp only
  split
  · exact hnew _
  split
  · split
    · exact h
    · split
      · exact k.error h
      · exact hnew _
  · split
    · exact k.error h
    · exact hnew _

theorem takePendingFields (h : P s) (r : FrameRecord) : P (takePendingFields s r) := by
  have hnew {s : State} (h : P s) (m : MuxMap) : P (Machine.settleMaps (setNext s m)) := k.settleMaps (k.maps _ h)
  unfold Machine.takePendingFields
  dsimp only
  split
  · split
    · exact hnew h _
    split
    · split
      · exact keeps_ite (fun _ => h) fun _ => keeps_ite (fun _ => k.error h) fun _ => hnew h _
      · exact keeps_ite (fun _ => k.backOut h _) fun _ => hnew h _
    · exact hnew (keeps_ite (fun _ => k.backOut h _) fun _ => h) _
  · exact keeps_ite (fun _ => h) fun _ => k.backOut h _

theorem mapFrameRecord (h : P s) (r : FrameRecord) : P (mapFrameRecord s r) := by
  have h1 := k.takeCurrentFields (k.weighRecord h r) r
  exact keeps_ite (fun _ => k.takePendingFields h1 r) fun _ => h1

theorem passToMap (h : P s) (r : FrameRecord) : P (passToMap s r) := keeps_ite (fun _ => k.mapFrameRecord h r) fun _ => h

end MapSteps

/-! ### Nothing left of the work of an old count (R16) -/

/-- No job, no arrival, no parcel record; `n` slips counted. -/
structure Abandoned (n : BitVec 16) (s : State) : Prop where
  jobs : s.jsc.jobs = []
  arrivals : s.jsc.arrivals = []
  records : s.pst.records = []
  slips : s.mod.counters.slips = n

theorem Thinned.records_nil {a b : State} (h : Thinned a b) (ha : a.pst.records = []) : b.pst.records = [] := by
  refine List.eq_nil_iff_forall_not_mem.2 fun r hr => ?_
  obtain ⟨q, hq, -⟩ := h.records r hr
  rw [ha] at hq
  cases hq

theorem settleJobs_none {s : State} (h : s.jsc.jobs = []) : (settleJobs s).jsc.jobs = [] := by
  obtain ⟨g, hg, -⟩ := (issued_settleJobs s).jobs
  rw [hg, h]
  rfl

/-- With no arrival recorded there is no frame to create jobs for. -/
theorem createOver_none {s : State} (h : s.jsc.arrivals = []) (p : FrameCount → Bool)
    (create : State → FrameCount → Instant → State) : createOver s p create = s := by
  unfold createOver recordedFrames
  rw [h]
  rfl

theorem Abandoned.thin {n : BitVec 16} {a b : State} (h : Abandoned n a) (ht : Thinned a b) (hj : b.jsc.jobs = a.jsc.jobs)
    (hr : b.jsc.arrivals = a.jsc.arrivals) : Abandoned n b :=
  ⟨hj.trans h.jobs, hr.trans h.arrivals, ht.records_nil h.records, ht.slips.trans h.slips⟩

theorem Abandoned.settleJobs {n : BitVec 16} {s : State} (h : Abandoned n s) : Abandoned n (settleJobs s) := by
  have hw := (issued_settleJobs s).scope
  exact ⟨settleJobs_none h.jobs, hw.arrivals.trans h.arrivals, hw.records.trans h.records,
    (congrArg Counters.slips hw.counters).trans h.slips⟩

theorem restoreStream_jobs (s : State) (x : StreamId) : (restoreStream s x).jsc.jobs = s.jsc.jobs := by
  unfold restoreStream
  dsimp only
  split
  · split
    · rfl
    · exact (moves_dropHolders s x none).jobs
  · rfl
  · rfl
  · rfl

/-- The jobs that a back-out leaves, those under way for discard. -/
def undoneJobs (js : List Job) : List Job :=
  (js.filter (fun j => underWay j || !j.speculative)).map (fun j => if j.speculative then { j with discard := true } else j)

theorem undoSpeculation_jobs (s : State) (xs : List StreamId) : (undoSpeculation s xs).jsc.jobs = undoneJobs s.jsc.jobs := by
  have hrestore (u : State) : (xs.foldl restoreStream u).jsc.jobs = u.jsc.jobs := by
    induction xs generalizing u with
    | nil => rfl
    | cons x xs ih => exact (ih _).trans (restoreStream_jobs u x)
  exact (hrestore _).trans (within_freeRecords (setJobs s (undoneJobs s.jsc.jobs)) _).jobs

theorem mapSteps_abandoned (n : BitVec 16) : MapSteps (Abandoned n) where
  maps _ h := ⟨h.jobs, h.arrivals, h.records, h.slips⟩
  changed h := h.thin (thinned_mapChanged _) (within_mapChanged _).jobs (within_mapChanged _).arrivals
  catchUp d h := by
    refine keeps_ite (fun _ => ?_) fun _ => h
    rw [createOver_none h.arrivals]
    exact h.settleJobs
  error h := ⟨h.jobs, h.arrivals, h.records, h.slips⟩
  confirmJobs h := ⟨congrArg (List.map _) h.jobs, h.arrivals, h.records, h.slips⟩
  confirmRecords h := h.thin (thinned_confirmRecords _) (within_confirmRecords _).jobs (within_confirmRecords _).arrivals
  undo := fun {s} xs h => by
    have hw := within_undoSpeculation s xs
    refine ⟨?_, hw.arrivals.trans h.arrivals, (thinned_undoSpeculation _ xs).records_nil h.records,
      (congrArg Counters.slips hw.counters).trans h.slips⟩
    rw [undoSpeculation_jobs, h.jobs]
    rfl
  recreate c h := by
    refine keeps_ite (fun _ => ?_) fun _ => h.settleJobs
    rw [createOver_none h.arrivals]
    exact h.settleJobs

end Sys2Proof.Machine

/-! PROOFS. O12: a slip, and the FRAME record that brings it about (R13, R15, R16). -/

namespace Sys2Proof.Machine

-- one theorem at a time: elaborated side by side, they would hold more threads than the check allows
set_option Elab.async false

/-! ### What a slip leaves (R16, R54, R80, R113, R165) -/

/-- The state at a slip to count `g`, before engines that it has made idle are reported. -/
def slipped (s : State) (g : FrameCount) : State := slipDelivery (dropChangeover (adoptCount (abandonWork s) g))

theorem slip_eq (s : State) (g : FrameCount) : slip s g = if allIdle s then slipped s g else reportIdle (slipped s g) := rfl

theorem within_slip_report (s : State) (g : FrameCount) :
    Within [.store, .queue, .counters, .mapUnit] (slipped s g) (slip s g) :=
  .ite (fun _ => .refl _ _) fun _ => within_reportIdle _

theorem noticed_slip (s : State) (g : FrameCount) : Noticed (slipped s g) (slip s g) :=
  .ite (fun _ => .refl _) fun _ => noticed_reportIdle _

theorem thinned_slip (s : State) (g : FrameCount) : Thinned (slipped s g) (slip s g) :=
  .ite (fun _ => .refl _) fun _ => thinned_reportIdle _

/-- The state with its slots erased, its engines quelled and its arrivals forgotten, the store still to be emptied. -/
def quelled (s : State) : State := emptyArrivals (stopEngines (eraseSlots s))

theorem abandonWork_eq (s : State) : abandonWork s = countSlip (emptyStore (quelled s)) := rfl

/-- What follows the emptying of the store, at a slip. -/
def recounted (s : State) (g : FrameCount) : State := slipDelivery (dropChangeover (adoptCount (countSlip s) g))

theorem slipped_eq (s : State) (g : FrameCount) : slipped s g = recounted (emptyStore (quelled s)) g := rfl

theorem recounted_parts (s : State) (g : FrameCount) :
    (recounted s g).jsc = s.jsc ∧ (recounted s g).ilm = s.ilm ∧ (recounted s g).pst = s.pst ∧
    (recounted s g).maps = { s.maps with marker := none, outgoing := none } ∧ (recounted s g).mod = (countSlip s).mod :=
  ⟨rfl, rfl, rfl, rfl, rfl⟩

theorem slipped_parts (s : State) (g : FrameCount) :
    (slipped s g).jsc = (emptyStore (quelled s)).jsc ∧ (slipped s g).ilm = (emptyStore (quelled s)).ilm ∧
    (slipped s g).pst = (emptyStore (quelled s)).pst ∧
    (slipped s g).maps = { (emptyStore (quelled s)).maps with marker := none, outgoing := none } ∧
    (slipped s g).mod = (countSlip (emptyStore (quelled s))).mod := by
  rw [slipped_eq]
  exact recounted_parts _ g

theorem within_emptied (s : State) : Within [.store, .queue] (quelled s) (emptyStore (quelled s)) := within_emptyStore _

theorem slots_quelled (s : State) (n : Fin 8) :
    (quelled s).ilm.slots.get n = { s.ilm.slots.get n with received := false, whole := false, cells := [] } :=
  Table.get_update _ _ _

theorem abandoned_slip (s : State) (g : FrameCount) : Abandoned (bump s.mod.counters.slips) (slip s g) := by
  obtain ⟨hjsc, -, hpst, -, hmod⟩ := slipped_parts s g
  have hw := within_emptied s
  have h : Abandoned (bump s.mod.counters.slips) (slipped s g) := by
    refine ⟨?_, ?_, ?_, ?_⟩
    · rw [hjsc, hw.jobs]; rfl
    · rw [hjsc, hw.arrivals]; rfl
    · rw [hpst, emptyStore_records]
    · rw [hmod]
      show bump (emptyStore (quelled s)).mod.counters.slips = _
      rw [hw.counters]
      rfl
  exact h.thin (thinned_slip s g) (within_slip_report s g).jobs (within_slip_report s g).arrivals

theorem ilm_slip (s : State) (g : FrameCount) :
    (∀ n : Fin 8, (slip s g).ilm.slots.get n = { s.ilm.slots.get n with received := false, whole := false, cells := [] }) ∧
      (slip s g).ilm.fillRun = 0 ∧ (slip s g).ilm.fill = s.ilm.fill := by
  obtain ⟨-, hilm, -⟩ := slipped_parts s g
  rw [(within_slip_report s g).ilm, hilm, (within_emptied s).ilm]
  exact ⟨slots_quelled s, rfl, rfl⟩

theorem scheduler_slip (s : State) (g : FrameCount) :
    (∀ e, engineOf (slip s g) e = .reset) ∧
      ∀ x, contextOf (slip s g) x = { coldContext (contextOf s x) with checkpoint := .none } := by
  obtain ⟨hjsc, -⟩ := slipped_parts s g
  have hw := within_emptied s
  refine ⟨fun e => ?_, fun x => ?_⟩
  · rw [engineOf_congr (within_slip_report s g).engines, engineOf, hjsc, hw.engines]
    exact stopEngines_idle (eraseSlots s) e
  · rw [contextOf_congr (within_slip_report s g).contexts, contextOf, hjsc, hw.contexts]
    exact contextOf_stopEngines (eraseSlots s) x

theorem maps_slip (s : State) (g : FrameCount) :
    (slip s g).maps.marker = none ∧ (slip s g).maps.outgoing = none ∧ (slip s g).maps.current = s.maps.current ∧
      (slip s g).maps.next = s.maps.next := by
  obtain ⟨-, -, -, hmaps, -⟩ := slipped_parts s g
  have hn := noticed_slip s g
  have hw := within_emptied s
  rw [hn.marker, hn.outgoing, hn.current, hn.next, hmaps, hw.maps]
  exact ⟨rfl, rfl, rfl, rfl⟩

/-- A slip withdraws every GAP, and reports nothing by one. -/
theorem queue_slip (s : State) (g : FrameCount) : ∀ e ∈ (slip s g).lnk.queue, e.kind ≠ .gap := by
  have h : ∀ e ∈ (slipped s g).lnk.queue, e.kind ≠ .gap := fun e he => by
    simpa using (List.mem_filter.1 he).2
  rw [slip_eq]
  split
  · exact h
  · exact keeps_ite (P := fun u => ∀ e ∈ u.lnk.queue, e.kind ≠ .gap)
      (fun _ => offer_kinds (P := (· ≠ .gap)) h nofun nofun) fun _ => h

theorem cursorFrame_slipDelivery (s : State) (x : StreamId) : cursorFrame (slipDelivery s) x = cursorFrame s x := by
  have hw : cursorFrame { withdraw s (fun e => e.kind == .gap) with dlv := { s.dlv with releaseList := [] } } x =
      cursorFrame s x := cursorFrame_congr rfl x
  rw [← hw]
  refine cursorFrame_mapCursors { withdraw s (fun e => e.kind == .gap) with dlv := { s.dlv with releaseList := [] } } ?_ x
  intro c
  split
  · split
    · exact ⟨rfl, rfl⟩
    · exact ⟨rfl, rfl⟩
  · exact ⟨rfl, rfl⟩

theorem cursors_slip (s : State) (g : FrameCount) :
    (slip s g).dlv.releaseList = [] ∧ ∀ x, cursorFrame (slip s g) x = cursorFrame s x := by
  have hw := within_slip_report s g
  refine ⟨hw.releaseList, fun x => ?_⟩
  rw [cursorFrame_congr hw.cursors, slipped, cursorFrame_slipDelivery]
  exact cursorFrame_congr (within_abandonWork s).cursors x

/-! ### The FRAME record at the tracker (R13, R15) -/

theorem trackRecord_locked {s : State} {r : FrameRecord} (h : s.ftr.sync = .locked) (he : s.ftr.expected = some r.ensemble)
    (f : Frame) : trackRecord s f r = if r.count = s.ftr.count then s else slip s r.count := by
  unfold trackRecord
  rw [h]
  exact if_neg (not_not.2 he)

theorem openTrial_of {s : State} {f : Frame} (h : s.ftr.sync = .holdover) (hk : f.kind = .trial) (hf : f.failed = false) :
    openTrial s f = true := by
  simp [openTrial, h, hk, hf]

section

variable {s : State} {f : Frame} {r : FrameRecord} (h : s.ftr.sync = .holdover) (ho : openTrial s f = true)
include h ho

theorem trackRecord_trial (he : s.ftr.expected = some r.ensemble) :
    trackRecord s f r =
      if r.count = s.ftr.count then
        setTracker s { s.ftr with sync := .locked, flywheel := 0, frame := some { f with kind := .reception } }
      else slip s r.count := by
  unfold trackRecord
  rw [h]
  exact (if_neg (by rw [ho]; simp)).trans (if_neg (not_not.2 he))

theorem trackRecord_foreign (he : s.ftr.expected ≠ some r.ensemble) : trackRecord s f r = failTrial s f := by
  unfold trackRecord
  rw [h]
  exact (if_neg (by rw [ho]; simp)).trans (if_pos he)

end

theorem passToMap_foreign {s : State} {r : FrameRecord} (he : s.ftr.expected ≠ some r.ensemble) : passToMap s r = s := if_neg he

/-- What a slip leaves. -/
theorem slip_leaves (s : State) (g : FrameCount) : let u := slip s g
    u.ftr.sync = .locked ∧ u.ftr.count = g ∧ u.ftr.flywheel = 0 ∧ u.ftr.releases = [] ∧
    u.ftr.expected = s.ftr.expected ∧ u.ftr.marker = s.ftr.marker ∧
    u.mod.counters.slips = bump s.mod.counters.slips ∧ u.jsc.jobs = [] ∧ u.jsc.arrivals = [] ∧
    (∀ e : EngineId, (engineOf u e).job = none ∧ (engineOf u e).held = none) ∧
    (∀ x : StreamId, (contextOf u x).warm = false ∧ (contextOf u x).location = .table ∧
      (contextOf u x).checkpoint = .none) ∧
    u.pst.records = [] ∧
    (∀ n : Fin 8, (u.ilm.slots.get n).tag = (s.ilm.slots.get n).tag ∧ (u.ilm.slots.get n).received = false ∧
      (u.ilm.slots.get n).whole = false ∧ (u.ilm.slots.get n).cells = []) ∧
    u.ilm.fillRun = 0 ∧ u.ilm.fill = s.ilm.fill ∧
    u.maps.marker = none ∧ u.maps.outgoing = none ∧ u.maps.current = s.maps.current ∧ u.maps.next = s.maps.next ∧
    u.dlv.releaseList = [] ∧ (∀ e ∈ u.lnk.queue, e.kind ≠ .gap) ∧ (∀ x, cursorFrame u x = cursorFrame s x) ∧
    Within slipping s u := by
  have hftr := ftr_slip s g
  obtain ⟨hjobs, harr, hrec, hslips⟩ := abandoned_slip s g
  obtain ⟨hslots, hrun, hfill⟩ := ilm_slip s g
  obtain ⟨heng, hctx⟩ := scheduler_slip s g
  obtain ⟨hmark, hout, hcur, hnext⟩ := maps_slip s g
  obtain ⟨hrel, hcursors⟩ := cursors_slip s g
  refine ⟨?_, ?_, ?_, ?_, ?_, ?_, hslips, hjobs, harr, fun e => ?_, fun x => ?_, hrec, fun n => ?_, hrun, hfill, hmark, hout, hcur,
    hnext, hrel, queue_slip s g, hcursors, within_slip s g⟩
  · exact (congrArg Tracker.sync hftr :)
  · exact (congrArg Tracker.count hftr :)
  · exact (congrArg Tracker.flywheel hftr :)
  · exact (congrArg Tracker.releases hftr :)
  · exact (congrArg Tracker.expected hftr :)
  · exact (congrArg Tracker.marker hftr :)
  · rw [heng e]
    exact ⟨rfl, rfl⟩
  · rw [hctx x]
    exact ⟨rfl, rfl, rfl⟩
  · rw [hslots n]
    exact ⟨rfl, rfl, rfl, rfl⟩

/-- The frame `f`, its FRAME record having come. -/
def recorded (f : Frame) : Frame := { f with recordSeen := true }

/-- The state as the tracker meets the FRAME record of the frame `f`. -/
def recordMet (s : State) (t : Instant) (i : LaneId) (f : Frame) : State := setFrame (blockCounted s t i) (recorded f)

theorem exec_frameRecord {s : State} {i : LaneId} {f : Frame} {r : FrameRecord} (h : CompletesBlock s i f)
    (hseen : f.recordSeen = false) (hv : frameRecordValid r = true) (t : Instant) (w : CellWord) :
    exec (.cellWord t i .control w (.frame r)) s =
      .next (settleClaims (passToMap (trackRecord (recordMet s t i f) (recorded f) r) r)) := by
  rw [exec_block h, takeBlock_frame (s := blockCounted s t i) h.2.2.2.1 hseen hv]
  rfl

/-- The map unit takes a record, and claims are settled: neither has a part in slots or tracker. -/
theorem passed_parts (s : State) (r : FrameRecord) :
    (settleClaims (passToMap s r)).ilm = s.ilm ∧ (settleClaims (passToMap s r)).ftr = s.ftr :=
  have hw := (within_passToMap s r).trans (within_settleClaims _).mono
  ⟨hw.ilm, hw.ftr⟩

/-- A slip's remains stand while the map unit takes the record that brought it about. -/
theorem slip_passed (s : State) (g : FrameCount) (r : FrameRecord) :
    let u := settleClaims (passToMap (slip s g) r)
    u.mod.counters.slips = bump s.mod.counters.slips ∧ u.jsc.jobs = [] ∧ u.jsc.arrivals = [] ∧ u.pst.records = [] ∧
      u.ilm.fillRun = 0 ∧ ∀ n : Fin 8, (u.ilm.slots.get n).received = false ∧ (u.ilm.slots.get n).whole = false := by
  obtain ⟨hjobs, harr, hrec, hslips⟩ := (mapSteps_abandoned _).passToMap (abandoned_slip s g) r
  have hclaims := within_settleClaims (passToMap (slip s g) r)
  obtain ⟨hslots, hrun, -⟩ := ilm_slip s g
  obtain ⟨hilm, -⟩ := passed_parts (slip s g) r
  refine ⟨?_, hclaims.jobs.trans hjobs, hclaims.arrivals.trans harr, hclaims.records.trans hrec, ?_, fun n => ?_⟩
  · rw [hclaims.counters]
    exact hslips
  · rw [hilm, hrun]
  · rw [hilm, hslots n]
    exact ⟨rfl, rfl⟩

/-- Settles O12. -/
theorem slipAbandonsWork : Obligations.SlipAbandonsWork := by
  refine ⟨fun s f r hl he hne => (trackRecord_locked hl he f).trans (if_neg hne), fun s g => ?_, ?_⟩
  · obtain ⟨h1, h2, h3, h4, h5, h6, hslips, h8, h9, h10, h11, h12, h13, h14, h15, h16, h17, h18, h19, h20, h21, h22, hw⟩ :=
      slip_leaves s g
    exact ⟨h1, h2, h3, h4, h5, h6, hslips.trans (bump_eq _), h8, h9, h10, h11, h12, h13, h14, h15, h16, h17, h18, h19, h20, h21,
      h22, hw.mono⟩
  · intro s t i w f r hblock hseen hv hsync c counted
    have hcmd := exec_frameRecord hblock hseen hv t w
    have hlocked (hl : s.ftr.sync = .locked) (he : s.ftr.expected = some r.ensemble) :=
      trackRecord_locked (s := recordMet s t i f) hl he (recorded f)
    have htrial (hh : s.ftr.sync = .holdover) (hk : f.kind = .trial) (hfa : f.failed = false) :
        openTrial (recordMet s t i f) (recorded f) = true := openTrial_of (f := recorded f) hh hk hfa
    refine ⟨fun he hne => ?_, fun he heq => ?_, fun hne hh => ?_⟩
    · have htrack : trackRecord (recordMet s t i f) (recorded f) r = slip (recordMet s t i f) r.count := by
        rcases hsync with hl | ⟨hh, hk, hfa⟩
        · exact (hlocked hl he).trans (if_neg hne)
        · exact (trackRecord_trial (s := recordMet s t i f) hh (htrial hh hk hfa) he).trans (if_neg hne)
      obtain ⟨hslips, hjobs, harr, hrec, hrun, hslots⟩ := slip_passed (recordMet s t i f) r.count r
      refine ⟨_, htrack ▸ hcmd, ?_, hslips.trans (bump_eq _), hjobs, harr, hrec, hrun, hslots⟩
      rw [(passed_parts _ r).2, ftr_slip]
      rfl
    · rcases hsync with hl | ⟨hh, hk, hfa⟩
      · obtain ⟨hilm, hftr⟩ := passed_parts (recordMet s t i f) r
        rw [(hlocked hl he).trans (if_pos heq)] at hcmd
        refine ⟨_, hcmd, hilm, ?_⟩
        rw [hftr, if_pos hl]
        rfl
      · rw [(trackRecord_trial (s := recordMet s t i f) hh (htrial hh hk hfa) he).trans (if_pos heq)] at hcmd
        refine ⟨_, hcmd, (passed_parts _ r).1, ?_⟩
        rw [(passed_parts _ r).2, if_neg (by rw [hh]; decide)]
        rfl
    · obtain ⟨hk, hfa⟩ : f.kind = .trial ∧ f.failed = false := by
        rcases hsync with hl | ⟨-, hkf⟩
        · rw [hh] at hl
          cases hl
        · exact hkf
      have hset : Settled (failTrial (recordMet s t i f) (recorded f)) :=
        (settled_blockCounted hblock.1 t i).congr rfl rfl rfl rfl rfl rfl
      rw [trackRecord_foreign (s := recordMet s t i f) hh (htrial hh hk hfa) hne, passToMap_foreign (by exact hne),
        settleClaims_of_settled hset] at hcmd
      exact hcmd

end Sys2Proof.Machine

/-! PROOFS. O10: control words outside blocks, and STREAM records at the map unit (R8, R20, R28, R29). -/

namespace Sys2Proof.Machine

-- one theorem at a time: elaborated side by side, they would hold more threads than the check allows
set_option Elab.async false

/-! ### Control words and failed blocks (R8, R20) -/

/-- A control word before the last of its area that completes no block moves the control path alone. -/
theorem exec_controlWord_counted {s : State} {t : Instant} {i : LaneId} {w : CellWord} {b : ControlBlock} {f : Frame}
    (hs : Awake s) (ha : (laneOf s i).state = .aligned)
    (hi : s.mod.straps.singleLane = true ∨ (i = 1 ∧ s.ftr.control.marked = true)) (hf : s.ftr.frame = some f)
    (hr : isReceived f = true) (hp : s.ftr.control.pairing = .current) (hw : s.ftr.control.words < 383)
    (h : f.controlEnded = true ∨ (s.ftr.control.words + 1) % 48 ≠ 0) :
    exec (.cellWord t i .control w b) s =
      .next { setLane (s.clocked t) i (countWord (laneOf s i)) with
        ftr := { s.ftr with control := wordCounted s.ftr.control (!f.controlEnded) w } } := by
  let c : State := setLane (s.clocked t) i (countWord (laneOf s i))
  have hdone (x : State) : blockDone x s.ftr.control (!f.controlEnded) w b = x := by
    rcases h with he | h48
    · rw [he]
      exact blockDone_lost x _ w b
    · exact blockDone_within h48 _ w b
  have hrun : takeControlWord c w b = setControl c (wordCounted s.ftr.control (!f.controlEnded) w) := by
    rw [takeControlWord_current (s := c) hp, controlOpen_of (s := c) hf hr, countControlWord_below (s := c) hw]
    exact hdone _
  have hset : Settled (setControl c (wordCounted s.ftr.control (!f.controlEnded) w)) := hs.2.congr rfl rfl rfl rfl rfl rfl
  rw [exec_controlWord hs ha hi, hrun, settleClaims_of_settled hset]
  rfl

/-- A block that changes nothing but a counter. -/
theorem exec_block_eq {s u : State} {i : LaneId} {f : Frame} (h : CompletesBlock s i f) {t : Instant} {w : CellWord}
    {b : ControlBlock} (hu : takeBlock (blockCounted s t i) b = u) (hset : Settled u) :
    exec (.cellWord t i .control w b) s = .next u := by
  rw [exec_block h, hu, settleClaims_of_settled hset]

theorem settled_errorCounted {s : State} (h : Settled s) : Settled (countControlError s) := h.within (within_countControlError s)

/-! ### STREAM records (R22, R28, R29) -/

theorem takeBlock_streamLocked {s : State} {raw : RawEntry} (hl : entryInLimits raw = true) (hs : s.ftr.sync = .locked)
    (tag : ChangeCount) : takeBlock s (.stream tag raw) = mapStreamRecord s tag raw := by
  refine (if_neg (by rw [hl]; simp)).trans (if_pos ?_)
  simp [streamsTaken, hs]

theorem takeBlock_streamProvisional {s : State} {raw : RawEntry} (hl : entryInLimits raw = true)
    (hs : s.ftr.sync = .provisional) (tag : ChangeCount) : takeBlock s (.stream tag raw) = s := by
  refine (if_neg (by rw [hl]; simp)).trans (if_neg ?_)
  simp [streamsTaken, hs]

theorem mapStreamRecord_neither {s : State} {tag : ChangeCount} (hc : s.maps.current.state = .none ∨ s.maps.current.count ≠ tag)
    (hn : s.maps.next.state = .none ∨ s.maps.next.count ≠ tag) (raw : RawEntry) : mapStreamRecord s tag raw = s :=
  (if_neg fun h => hc.elim h.1 fun hne => hne h.2).trans (if_neg fun h => hn.elim h.1 fun hne => hne h.2)

theorem mapStreamRecord_current {s : State} {tag : ChangeCount} (hc : s.maps.current.state ≠ .none)
    (ht : s.maps.current.count = tag) (raw : RawEntry) :
    mapStreamRecord s tag raw = settleIf (noticeDue s.maps.current (applyRecord s.maps.current (entryOfRaw raw true)))
      (setCurrent (if (applyRecord s.maps.current (entryOfRaw raw true)).error then countControlError s else s)
        (applyRecord s.maps.current (entryOfRaw raw true)).map) := if_pos ⟨hc, ht⟩

/-- A record that leaves the current map as it is. -/
theorem mapStreamRecord_unmoved {s : State} {tag : ChangeCount} {raw : RawEntry} {error : Bool}
    (hc : s.maps.current.state ≠ .none) (ht : s.maps.current.count = tag)
    (hr : applyRecord s.maps.current (entryOfRaw raw true) = { map := s.maps.current, error := error, contentChanged := false }) :
    mapStreamRecord s tag raw = if error then countControlError s else s := by
  rw [mapStreamRecord_current hc ht, hr]
  have hdue : noticeDue s.maps.current { map := s.maps.current, error := error, contentChanged := false } = false := by
    simp [noticeDue]
  rw [hdue]
  cases error with
  | true => rfl
  | false => rfl

theorem applyRecord_complete {m : MuxMap} (h : m.state = .complete) (e : MapEntry) :
    applyRecord m e = { map := m, error := !(m.entryOf e.id).any (sameEntry · e), contentChanged := false } := by
  unfold applyRecord applyToComplete
  rw [h]
  dsimp only
  cases m.entryOf e.id with
  | none => rfl
  | some x => rfl

theorem applyRecord_overlap {m : MuxMap} (h : m.state = .assembling) {e : MapEntry}
    (ho : ∃ x ∈ m.entries, x.id ≠ e.id ∧ overlaps x e = true) :
    applyRecord m e = { map := m, error := true, contentChanged := false } := by
  obtain ⟨x, hx, hne, hov⟩ := ho
  unfold applyRecord
  rw [h]
  exact if_pos (List.any_eq_true.2 ⟨x, hx, by simp [hne, hov]⟩)

theorem applyRecord_assembling {m : MuxMap} (h : m.state = .assembling) {e : MapEntry}
    (ho : ∀ x ∈ m.entries, x.id ≠ e.id → overlaps x e = false) :
    applyRecord m e = { map := completed { m with entries := putEntry { e with own := true } m.entries }, error := false,
                        contentChanged := changesContent m e } := by
  have hnone : ¬m.entries.any (fun x => x.id != e.id && overlaps x e) = true := fun ha => by
    obtain ⟨x, hx, hk⟩ := List.any_eq_true.1 ha
    rw [Bool.and_eq_true, bne_iff_ne] at hk
    rw [ho x hx hk.1] at hk
    cases hk.2
  have happly : applyRecord m e = applyToAssembling m e := by
    unfold applyRecord
    rw [h]
  rw [happly]
  exact if_neg hnone

theorem completed_fields (m : MuxMap) :
    (completed m).count = m.count ∧ (completed m).entryCount = m.entryCount ∧ (completed m).entries = m.entries ∧
      (m.state = .assembling → if m.entryCount ≤ m.entries.length then (completed m).state = .complete ∧ (completed m).source = .own
        else (completed m).state = .assembling) := by
  unfold completed
  by_cases h : m.state = .assembling ∧ m.entryCount ≤ m.entries.length
  · rw [if_pos h]
    refine ⟨rfl, rfl, rfl, fun _ => ?_⟩
    rw [if_pos h.2]
    exact ⟨rfl, rfl⟩
  · rw [if_neg h]
    refine ⟨rfl, rfl, rfl, fun ha => ?_⟩
    rw [if_neg fun hle => h ⟨ha, hle⟩]
    exact ha

theorem stand_settleIf (due : Bool) (s : State) : MapsStand s (settleIf due s) := by
  unfold settleIf
  split
  · exact stand_settleMaps s
  · exact .refl s

/-- An ASSEMBLING current map takes the record that overlaps no other stream's entry. -/
theorem mapStreamRecord_taken {s : State} {tag : ChangeCount} {raw : RawEntry} (ha : s.maps.current.state = .assembling)
    (ht : s.maps.current.count = tag)
    (ho : ∀ x ∈ s.maps.current.entries, x.id ≠ (entryOfRaw raw true).id → overlaps x (entryOfRaw raw true) = false) :
    let u := mapStreamRecord s tag raw
    let e := entryOfRaw raw true
    let m := s.maps.current
    u.maps.current.count = m.count ∧ u.maps.current.entryCount = m.entryCount ∧
      (∀ y, u.maps.current.entryOf y = if y = e.id then some e else m.entryOf y) ∧
      if m.entryCount ≤ u.maps.current.entries.length then u.maps.current.state = .complete ∧ u.maps.current.source = .own
      else u.maps.current.state = .assembling := by
  intro u e m
  let m' : MuxMap := { m with entries := putEntry e m.entries }
  have hu : u = settleIf (noticeDue m { map := completed m', error := false, contentChanged := changesContent m e })
      (setCurrent s (completed m')) := by
    show mapStreamRecord s tag raw = _
    rw [mapStreamRecord_current (by rw [ha]; decide) ht, applyRecord_assembling ha ho]
    rfl
  have hstand : MapsStand (setCurrent s (completed m')) u := by
    rw [hu]
    exact stand_settleIf _ _
  obtain ⟨hcount, hentryCount, hentries, hstate⟩ := completed_fields m'
  have hue : u.maps.current.entries = putEntry e m.entries := hstand.entries.trans hentries
  refine ⟨hstand.count.trans hcount, hstand.entryCount.trans hentryCount, fun y => ?_, ?_⟩
  · rw [MuxMap.entryOf, hue]
    exact find?_putEntry e m.entries y
  · rw [hue, hstand.state, hstand.source]
    exact hstate ha

end Sys2Proof.Machine

/-! PROOFS. O10: a change-over confirmed or backed out, in the store and the job scheduler (R37, R38, R75 to R78, R106). -/

namespace Sys2Proof.Machine

-- one theorem at a time: elaborated side by side, they would hold more threads than the check allows
set_option Elab.async false

/-! ### No SPEC_HELD record is left (R106) -/

/-- No record of the stream-frame is SPEC_HELD. -/
def Cleared (x : StreamId) (f : FrameCount) (s : State) : Prop :=
  ∀ r ∈ s.pst.records, r.stream = x → r.frame = f → r.state ≠ .specHeld

theorem Cleared.thin {x : StreamId} {f : FrameCount} {a b : State} (h : Cleared x f a) (ht : Thinned a b) : Cleared x f b := by
  intro r hr hx hf hs
  obtain ⟨q, hq, hqs, hqf, hqh⟩ := ht.records r hr
  exact h q hq (hqs.trans hx) (hqf.trans hf) (hqh hs)

theorem cleared_updateRecord (s : State) (x : StreamId) (f : FrameCount) {g : ParcelRecord → ParcelRecord}
    (hg : ∀ r, (g r).state ≠ .specHeld) : Cleared x f (updateRecord s x f g) := by
  intro r hr hx hf
  obtain ⟨q, -, rfl⟩ := List.mem_map.1 hr
  split
  · exact hg q
  · rename_i hne
    rw [if_neg hne] at hx hf
    simp [hx, hf] at hne

theorem cleared_of_none {s : State} {x : StreamId} {f : FrameCount} (h : recordOf s x f = none) : Cleared x f s := by
  intro r hr hx hf
  have hn := List.find?_eq_none.1 h r hr
  simp [hx, hf] at hn

theorem cleared_freeRecord (s : State) (x : StreamId) (f : FrameCount) : Cleared x f (freeRecord s x f) :=
  cleared_of_none (recordOf_freeRecord_self s x f)

theorem cleared_handOver (s : State) (r : ParcelRecord) : Cleared r.stream r.frame (handOver s r) := by
  have hheld : Cleared r.stream r.frame (updateRecord s r.stream r.frame (fun r => { r with state := .held })) :=
    cleared_updateRecord s _ _ fun _ => nofun
  have hqueue : Cleared r.stream r.frame (queueParcel s r) :=
    keeps_ite (fun _ => cleared_updateRecord _ _ _ fun _ => nofun) fun _ => cleared_freeRecord _ _ _
  unfold handOver
  split
  · exact keeps_ite (fun _ => hqueue) fun _ => hheld
  · exact hheld

theorem cleared_placeRecord (s : State) (r : ParcelRecord) : Cleared r.stream r.frame (placeRecord s r) :=
  keeps_ite (fun _ => cleared_updateRecord _ _ _ fun _ => nofun) fun _ =>
    keeps_ite (fun _ => cleared_updateRecord _ _ _ fun _ => nofun) fun _ => cleared_handOver _ r

theorem cleared_confirmRecord (s : State) (x : StreamId) (f : FrameCount) : Cleared x f (confirmRecord s x f) := by
  unfold confirmRecord
  dsimp only
  split
  · rename_i hn
    exact cleared_of_none hn
  · rename_i r hr
    obtain ⟨-, rfl, rfl⟩ := recordOf_key hr
    exact keeps_ite (fun _ => cleared_freeRecord _ _ _) fun _ => cleared_placeRecord _ r

theorem cleared_foldl_confirmRecord (rs : List ParcelRecord) (s : State) {r : ParcelRecord} (h : r ∈ rs) :
    Cleared r.stream r.frame (rs.foldl (fun s r => confirmRecord s r.stream r.frame) s) := by
  induction rs generalizing s with
  | nil => cases h
  | cons q qs ih =>
    rcases List.mem_cons.1 h with rfl | h
    · exact (cleared_confirmRecord s r.stream r.frame).thin
        (.foldl (fun s (r : ParcelRecord) => thinned_confirmRecord s r.stream r.frame) qs _)
    · exact ih _ h

/-- No record is SPEC_HELD. -/
def NoneSpeculative (s : State) : Prop := ∀ r ∈ s.pst.records, r.state ≠ .specHeld

theorem NoneSpeculative.thin {a b : State} (h : NoneSpeculative a) (ht : Thinned a b) : NoneSpeculative b := by
  intro r hr hs
  obtain ⟨q, hq, -, -, hqh⟩ := ht.records r hr
  exact h q hq (hqh hs)

/-- Confirmation places or frees every SPEC_HELD record. -/
theorem noneSpeculative_confirmRecords (s : State) : NoneSpeculative (confirmRecords s) := by
  intro r hr hs
  obtain ⟨q, hq, hqx, hqf, hqh⟩ := (thinned_confirmRecords s).records r hr
  have hin : q ∈ s.pst.records.filter (fun r => r.state == .specHeld) := List.mem_filter.2 ⟨hq, by simp [hqh hs]⟩
  exact cleared_foldl_confirmRecord _ s hin r hr hqx.symm hqf.symm hs

theorem noneSpeculative_undoSpeculation (s : State) (xs : List StreamId) : NoneSpeculative (undoSpeculation s xs) := by
  have hdrop (u : State) : NoneSpeculative (dropSpeculative u) := by
    intro r hr
    simpa using (freeRecords_none_left hr).2
  exact (hdrop _).thin (.foldl (fun s x => .within (within_restoreStream s x)) xs _)

/-! ### The job scheduler while no next map is held (R63, R79) -/

/-- From `a` to `b`, with no next map in either: no speculative job has been made, the checkpoint marker stands, and contexts
have changed as issue rounds change them. -/
structure Calm (a b : State) : Prop where
  next : b.maps.next.state = .none
  marker : b.maps.marker = a.maps.marker
  jobs : ∀ j ∈ b.jsc.jobs, j.speculative = false ∨
    ∃ i ∈ a.jsc.jobs, i.speculative = j.speculative ∧ i.discard = j.discard
  idle : ∀ x, noneUnderWay b x → noneUnderWay a x
  contexts : ∀ x, Moved (contextOf a x) (contextOf b x)
  located : ∀ x, noneUnderWay b x → (contextOf a x).location = .table → contextOf b x = contextOf a x

theorem Calm.refl {a : State} (h : a.maps.next.state = .none) : Calm a a :=
  ⟨h, rfl, fun j hj => .inr ⟨j, hj, rfl, rfl⟩, fun _ hn => hn, fun _ => .refl _, fun _ _ _ => rfl⟩

theorem Calm.trans {a b c : State} (h : Calm a b) (k : Calm b c) : Calm a c where
  next := k.next
  marker := k.marker.trans h.marker
  jobs j hj := by
    rcases k.jobs j hj with hs | ⟨i, hi, his, hid⟩
    · exact .inl hs
    · rcases h.jobs i hi with hs | ⟨g, hg, hgs, hgd⟩
      · exact .inl (his ▸ hs)
      · exact .inr ⟨g, hg, hgs.trans his, hgd.trans hid⟩
  idle x hc := h.idle x (k.idle x hc)
  contexts x := (h.contexts x).trans (k.contexts x)
  located x hc hl := by
    have h1 := h.located x (k.idle x hc) hl
    exact (k.located x hc (by rw [h1]; exact hl)).trans h1

/-- A change that leaves the scheduler alone, and of the map unit the next map and the marker. -/
theorem Calm.of_parts {a b : State} (hn : b.maps.next.state = .none) (hm : b.maps.marker = a.maps.marker)
    (hj : b.jsc.jobs = a.jsc.jobs) (hc : b.jsc.contexts = a.jsc.contexts) : Calm a b where
  next := hn
  marker := hm
  jobs j hj' := .inr ⟨j, hj ▸ hj', rfl, rfl⟩
  idle x h := by
    unfold noneUnderWay at *
    rwa [hj] at h
  contexts x := by
    rw [contextOf_congr hc]
    exact .refl _
  located x _ _ := contextOf_congr hc x

theorem Calm.noticed {ps : List Part} {a b : State} (h : a.maps.next.state = .none) (hm : Noticed a b) (hw : Within ps a b)
    (hs : Part.scheduler ∉ ps := by decide) : Calm a b :=
  .of_parts (by rw [hm.next]; exact h) hm.marker (hw.jobs hs) (hw.contexts hs)

theorem Calm.issued {a b : State} (h : a.maps.next.state = .none) (hi : Issued a b) : Calm a b where
  next := by rw [hi.scope.maps]; exact h
  marker := by rw [hi.scope.maps]
  jobs j hj := by
    obtain ⟨g, hg, hgiven⟩ := hi.jobs
    rw [hg] at hj
    obtain ⟨i, him, rfl⟩ := List.mem_map.1 hj
    have hp := (hgiven i him).plan
    exact .inr ⟨i, him, (congrArg Job.speculative hp.symm :), (congrArg Job.discard hp.symm :)⟩
  idle _ hn := hi.none_before hn
  contexts := hi.contexts
  located := hi.located

theorem Calm.foldl {α : Type} {f : State → α → State} (hf : ∀ s x, s.maps.next.state = .none → Calm s (f s x)) (l : List α)
    {s : State} (h : s.maps.next.state = .none) : Calm s (l.foldl f s) := by
  induction l generalizing s with
  | nil => exact .refl h
  | cons x xs ih => exact (hf s x h).trans (ih (hf s x h).next)

section

variable {s : State} (h : s.maps.next.state = .none)
include h

theorem calm_createJob (x : StreamId) (c : JobClass) (f : FrameCount) (r : Instant) : Calm s (createJob s x c f r) := by
  have hm := marked_createJob s x c f r
  have hctx : (createJob s x c f r).jsc.contexts = s.jsc.contexts := by
    unfold createJob
    dsimp only
    rw [nextApplies_none h]
    split
    · rfl
    · split
      · rfl
      · rfl
  have hold : ∀ j ∈ s.jsc.jobs, j ∈ (createJob s x c f r).jsc.jobs := fun j hj => by
    rw [createJob_jobs]
    exact prefix_addJob.subset hj
  refine ⟨by rw [hm.next]; exact h, hm.2 h, fun j hj => ?_, fun y hn j hj hx => hn j (hold j hj) hx, fun y => ?_, fun y _ _ => ?_⟩
  · rw [createJob_jobs] at hj
    rcases mem_addJob hj with hin | ⟨e, -, hp, -⟩
    · exact .inr ⟨j, hin, rfl, rfl⟩
    · exact .inl ((congrArg Job.speculative hp :).trans (nextApplies_none h f))
  · rw [contextOf_congr hctx]
    exact .refl _
  · exact contextOf_congr hctx y

theorem calm_createMissed (f : FrameCount) (r : Instant) : Calm s (createMissed s f r) :=
  .foldl (fun _ (p : StreamId × JobClass) hn => keeps_ite (P := Calm _) (fun _ => .refl hn) fun _ => calm_createJob hn p.1 p.2 f r) _ h

theorem calm_putOff (x : StreamId) (f : FrameCount) : Calm s (updateJob s x f (fun j => { j with putOff := true })) := by
  have hsame (j : Job) : (if j.stream == x && j.frame == f then { j with putOff := true } else j).speculative = j.speculative ∧
      (if j.stream == x && j.frame == f then { j with putOff := true } else j).discard = j.discard ∧
      (if j.stream == x && j.frame == f then { j with putOff := true } else j).stream = j.stream ∧
      underWay (if j.stream == x && j.frame == f then { j with putOff := true } else j) = underWay j := by
    split
    · exact ⟨rfl, rfl, rfl, rfl⟩
    · exact ⟨rfl, rfl, rfl, rfl⟩
  refine ⟨h, rfl, fun j hj => ?_, fun y hn j hj hx => ?_, fun _ => .refl _, fun _ _ _ => rfl⟩
  · obtain ⟨i, hi, rfl⟩ := List.mem_map.1 hj
    exact .inr ⟨i, hi, (hsame i).1.symm, (hsame i).2.1.symm⟩
  · have := hn _ (List.mem_map_of_mem hj) ((hsame j).2.2.1.trans hx)
    rwa [(hsame j).2.2.2] at this

theorem calm_recreateFrame (f : FrameCount) (r : Instant) : Calm s (recreateFrame s f r) := by
  refine .foldl (fun u (p : StreamId × JobClass) hn => ?_) _ h
  unfold recreateJob
  split
  · exact .refl hn
  · split
    · exact keeps_ite (P := Calm u) (fun _ => calm_putOff hn _ _) fun _ => .refl hn
    · exact calm_createJob hn _ _ _ _

theorem calm_createOver {create : State → FrameCount → Instant → State}
    (hc : ∀ {s : State}, s.maps.next.state = .none → ∀ f r, Calm s (create s f r)) (p : FrameCount → Bool) :
    Calm s (createOver s p create) := by
  refine .foldl (fun u f hn => ?_) _ h
  split
  · exact keeps_ite (P := Calm u) (fun _ => hc hn _ _) fun _ => .refl hn
  · exact .refl hn

theorem calm_settleJobs : Calm s (settleJobs s) := .issued h (issued_settleJobs s)

theorem calm_catchUp (d : FrameCount) : Calm s (catchUp s d) := by
  refine keeps_ite (P := Calm s) (fun _ => ?_) fun _ => .refl h
  have h1 := calm_createOver h calm_createMissed (walked s d)
  exact h1.trans (calm_settleJobs h1.next)

theorem calm_recreateFrom (c : FrameCount) : Calm s (recreateFrom s c) := by
  refine keeps_ite (P := Calm s) (fun _ => ?_) fun _ => calm_settleJobs h
  have h1 := calm_createOver h calm_recreateFrame (fun f => atOrAfter f c)
  exact h1.trans (calm_settleJobs h1.next)

theorem calm_settleMaps : Calm s (settleMaps s) := by
  have hcurrent {u : State} (hn : u.maps.next.state = .none) : Calm u (currentReady u) := by
    have hready (m : MuxMap) (d : FrameCount) : Calm u (catchUp (setCurrent u m) d) :=
      (Calm.of_parts (a := u) (b := setCurrent u m) hn rfl rfl rfl).trans (calm_catchUp (s := setCurrent u m) hn d)
    unfold currentReady
    split
    · exact keeps_ite (P := Calm u) (fun _ => hready _ _) fun _ => .refl hn
    · exact .refl hn
  have hnext {u : State} (hn : u.maps.next.state = .none) : Calm u (nextReady u) := by
    have hready (d : FrameCount) : Calm u (catchUp (setNext u { u.maps.next with deferred := none }) d) :=
      (Calm.of_parts (a := u) (b := setNext u { u.maps.next with deferred := none }) hn rfl rfl rfl).trans
        (calm_catchUp (s := setNext u { u.maps.next with deferred := none }) hn d)
    unfold nextReady
    split
    · exact keeps_ite (P := Calm u) (fun _ => hready _) fun _ => .refl hn
    · exact .refl hn
  have h1 : Calm s (mapChanged s) := .noticed h (noticed_mapChanged s) (within_mapChanged s)
  have h2 := h1.trans (hcurrent h1.next)
  exact h2.trans (hnext h2.next)

end

/-! ### Restored contexts (R78) -/

/-- A job of the stream is under way. -/
def busy (s : State) (x : StreamId) : Bool := s.jsc.jobs.any (fun j => j.stream == x && underWay j)

theorem busy_iff {s : State} {x : StreamId} : busy s x = true ↔ ∃ j ∈ s.jsc.jobs, j.stream = x ∧ underWay j = true := by
  simp [busy, List.any_eq_true]

/-- The context that a back-out leaves of `c`. -/
def restored (underWay : Bool) (c : Context) : Context :=
  match c.checkpoint with
  | .held k =>
    if underWay then { c with checkpoint := .restoring k false }
    else { next := k.next, metrics := k.metrics, warm := k.warm, location := .table, checkpoint := .none }
  | .pending => { c with checkpoint := .none }
  | .restoring k _ => { c with checkpoint := .restoring k false }
  | .none => c

/-- A stream that the marker names twice is restored once. -/
theorem restored_restored (b : Bool) (c : Context) : restored b (restored b c) = restored b c := by
  obtain ⟨next, metrics, warm, location, checkpoint⟩ := c
  cases checkpoint with
  | held k =>
    cases b with
    | true => rfl
    | false => rfl
  | pending => rfl
  | restoring k r => rfl
  | none => rfl

theorem contextOf_dropHolders (s : State) (x : StreamId) (k : Option EngineId) (y : StreamId) :
    contextOf (dropHolders s x k) y = contextOf s y := by
  refine foldl_keeps (P := fun u => contextOf u y = contextOf s y) (fun u e hu => ?_) _ rfl
  split
  · exact hu
  · exact hu

theorem contextOf_restoreStream (s : State) (x y : StreamId) :
    contextOf (restoreStream s x) y = if y = x then restored (busy s x) (contextOf s x) else contextOf s y := by
  unfold restoreStream restored
  dsimp only
  cases hc : (contextOf s x).checkpoint with
  | held k =>
    dsimp only
    split
    · rename_i hb
      rw [contextOf_setContext, if_pos (show busy s x = true from hb)]
    · rename_i hb
      rw [contextOf_setContext, if_neg (show ¬busy s x = true from hb), contextOf_dropHolders]
  | pending => exact contextOf_setContext _ _ _ _
  | restoring k r => exact contextOf_setContext _ _ _ _
  | none =>
    dsimp only
    split
    · subst y
      rfl
    · rfl

theorem busy_restoreStream (s : State) (x y : StreamId) : busy (restoreStream s x) y = busy s y := by
  unfold busy
  rw [restoreStream_jobs]

theorem contextOf_foldl_restoreStream (xs : List StreamId) (s : State) (y : StreamId) :
    contextOf (xs.foldl restoreStream s) y = if y ∈ xs then restored (busy s y) (contextOf s y) else contextOf s y := by
  induction xs generalizing s with
  | nil => rfl
  | cons x xs ih =>
    rw [List.foldl_cons, ih, busy_restoreStream, contextOf_restoreStream]
    by_cases hx : y = x
    · subst y
      rw [if_pos rfl, if_pos List.mem_cons_self, restored_restored, ite_self]
    · rw [if_neg hx]
      simp [hx]

theorem busy_undone (s : State) (x : StreamId) : busy (setJobs s (undoneJobs s.jsc.jobs)) x = busy s x := by
  have hkeep (j : Job) : (if j.speculative then { j with discard := true } else j).stream = j.stream ∧
      underWay (if j.speculative then { j with discard := true } else j) = underWay j := by
    split
    · exact ⟨rfl, rfl⟩
    · exact ⟨rfl, rfl⟩
  rw [Bool.eq_iff_iff, busy_iff, busy_iff]
  constructor
  · rintro ⟨j, hj, hx, hu⟩
    obtain ⟨i, hi, rfl⟩ := List.mem_map.1 hj
    exact ⟨i, (List.mem_filter.1 hi).1, (hkeep i).1 ▸ hx, (hkeep i).2 ▸ hu⟩
  · rintro ⟨j, hj, hx, hu⟩
    exact ⟨_, List.mem_map_of_mem (List.mem_filter.2 ⟨hj, by simp [hu]⟩), (hkeep j).1.trans hx, (hkeep j).2.trans hu⟩

theorem contextOf_undoSpeculation (s : State) {xs : List StreamId} {x : StreamId} (h : x ∈ xs) :
    contextOf (undoSpeculation s xs) x = restored (busy s x) (contextOf s x) := by
  have hw := within_freeRecords (setJobs s (undoneJobs s.jsc.jobs)) (fun r => r.state == .specHeld)
  have hb : busy (dropSpeculative (setJobs s (undoneJobs s.jsc.jobs))) x = busy s x := by
    refine Eq.trans ?_ (busy_undone s x)
    unfold busy
    rw [show (dropSpeculative (setJobs s (undoneJobs s.jsc.jobs))).jsc.jobs = _ from hw.jobs]
  have hc : contextOf (dropSpeculative (setJobs s (undoneJobs s.jsc.jobs))) x = contextOf s x := contextOf_congr hw.contexts x
  refine (contextOf_foldl_restoreStream xs _ x).trans ?_
  rw [if_pos h]
  exact congrArg₂ restored hb hc

/-- A speculative job that a back-out leaves is for discard. -/
theorem discard_undone {js : List Job} {j : Job} (h : j ∈ undoneJobs js) (hs : j.speculative = true) : j.discard = true := by
  obtain ⟨i, -, rfl⟩ := List.mem_map.1 h
  split
  · rfl
  · rename_i hn
    rw [if_neg hn] at hs
    exact absurd hs hn

end Sys2Proof.Machine

/-! PROOFS. O10: FRAME records at the map unit (R26, R27, R35 to R38). -/

namespace Sys2Proof.Machine

-- one theorem at a time: elaborated side by side, they would hold more threads than the check allows
set_option Elab.async false

/-! ### The steps of a FRAME record (R26, R27, R35) -/

section

variable {s : State} {r : FrameRecord}

theorem weighRecord_unannounced (h : s.maps.next.state = .none) : weighRecord s r = s := if_neg fun k => k.1 h

theorem weighRecord_confirms (hn : s.maps.next.state ≠ .none) (ha : atOrAfter r.count s.maps.next.changeFrame = true)
    (hc : r.changeCount = s.maps.next.count) : weighRecord s r = confirm s := (if_pos ⟨hn, ha⟩).trans (if_pos hc)

theorem weighRecord_backsOut (hn : s.maps.next.state ≠ .none) (ha : atOrAfter r.count s.maps.next.changeFrame = true)
    (hc : r.changeCount ≠ s.maps.next.count) (hp : r.pending = false) : weighRecord s r = backOut s .drop :=
  (if_pos ⟨hn, ha⟩).trans ((if_neg hc).trans (if_neg fun k => by rw [hp] at k; cases k.2.2.1))

theorem takeCurrentFields_unheld (h : s.maps.current.state = .none) :
    takeCurrentFields s r =
      (settleMaps (setCurrent s (openedMap r.changeCount r.entryCount 0 s.maps.current.deferred)), true) := if_pos h

theorem takeCurrentFields_held (h : s.maps.current.state ≠ .none) (hc : r.changeCount = s.maps.current.count)
    (he : r.entryCount = s.maps.current.entryCount) : takeCurrentFields s r = (s, true) :=
  (if_neg h).trans ((if_pos hc).trans (if_pos he))

theorem takePendingFields_absent (h : s.maps.next.state = .none) (hp : r.pending = false) : takePendingFields s r = s := by
  refine (if_neg ?_).trans (if_pos h)
  rw [hp]
  decide

theorem takePendingFields_opens (h : s.maps.next.state = .none) (hp : r.pending = true) :
    takePendingFields s r = settleMaps (setNext s (openedMap r.nextChangeCount r.nextEntryCount r.changeFrame none)) :=
  (if_pos hp).trans (if_pos h)

theorem mapFrameRecord_eq {w t : State} (hw : weighRecord s r = w) (ht : takeCurrentFields w r = (t, true)) :
    mapFrameRecord s r = takePendingFields t r := by
  unfold mapFrameRecord
  rw [hw, ht]
  rfl

end

theorem openedMap_fields (c : ChangeCount) (n : Nat) (f : FrameCount) (d : Option FrameCount) :
    (openedMap c n f d).state = (if n = 0 then .complete else .assembling) ∧ (openedMap c n f d).count = c ∧
      (openedMap c n f d).entryCount = n ∧ (openedMap c n f d).changeFrame = f ∧ (openedMap c n f d).source = .own ∧
      (openedMap c n f d).entries = [] := by
  unfold openedMap completed
  by_cases h : n = 0
  · subst h
    exact ⟨rfl, rfl, rfl, rfl, rfl, rfl⟩
  · rw [if_neg (show ¬((MapState.assembling = .assembling) ∧ n ≤ ([] : List MapEntry).length) by simp [h]), if_neg h]
    exact ⟨rfl, rfl, rfl, rfl, rfl, rfl⟩

/-! ### Confirmation and back-out of a change-over (R37, R38) -/

/-- The maps as a confirmation leaves them, before jobs, records and notices. -/
def confirmedMaps (s : State) : State :=
  setMaps s { s.maps with current := s.maps.next, next := .empty, outgoing := outgoingFrom s s.maps.next.changeFrame,
                          marker := none, wantNext := false }

theorem confirm_eq (s : State) : confirm s = settleMaps (confirmRecords (confirmJobs (confirmedMaps s))) := rfl

theorem noticed_confirmed (s : State) : Noticed (confirmedMaps s) (confirmRecords (confirmJobs (confirmedMaps s))) :=
  (Noticed.within (within_confirmJobs _)).trans (noticed_confirmRecords _)

theorem calm_confirmed (s : State) : Calm (confirmRecords (confirmJobs (confirmedMaps s))) (confirm s) :=
  calm_settleMaps (by rw [(noticed_confirmed s).next]; rfl)

theorem stand_confirm (s : State) : MapsStand (confirmedMaps s) (confirm s) :=
  (noticed_confirmed s).stand.trans (stand_settleMaps _)

theorem marker_confirm (s : State) : (confirm s).maps.marker = none :=
  (calm_confirmed s).marker.trans (noticed_confirmed s).marker

theorem noneSpeculative_confirm (s : State) : NoneSpeculative (confirm s) :=
  (noneSpeculative_confirmRecords _).thin (thinned_settleMaps _)

theorem jobs_confirm (s : State) : ∀ j ∈ (confirm s).jsc.jobs, j.speculative = false := by
  intro j hj
  rcases (calm_confirmed s).jobs j hj with hs | ⟨i, hi, his, -⟩
  · exact hs
  · rw [(within_confirmRecords _).jobs] at hi
    obtain ⟨k, -, rfl⟩ := List.mem_map.1 hi
    exact his.symm

/-- The state as a back-out has undone the speculative work and dropped the next map, before jobs are made anew. -/
def undone (s : State) (m : Marker) : State :=
  setMaps (undoSpeculation s m.streams) { (undoSpeculation s m.streams).maps with marker := none, next := .empty }

theorem backOut_drop {s : State} {m : Marker} (h : s.maps.marker = some m) :
    backOut s .drop = settleMaps (recreateFrom (undone s m) m.changeFrame) := by
  unfold backOut
  rw [h]
  rfl

section

variable {s : State} {m : Marker} (h : s.maps.marker = some m)
include h

theorem calm_backOut : Calm (undone s m) (backOut s .drop) := by
  have h1 : Calm (undone s m) (recreateFrom (undone s m) m.changeFrame) := calm_recreateFrom rfl _
  rw [backOut_drop h]
  exact h1.trans (calm_settleMaps h1.next)

theorem stand_backOut : MapsStand (undone s m) (backOut s .drop) := by
  rw [backOut_drop h]
  exact (marked_recreateFrom _ _).stand.trans (stand_settleMaps _)

theorem noneSpeculative_backOut : NoneSpeculative (backOut s .drop) := by
  have hu : NoneSpeculative (undone s m) := noneSpeculative_undoSpeculation s m.streams
  rw [backOut_drop h]
  exact hu.thin ((Thinned.within (within_recreateFrom _ _)).trans (thinned_settleMaps _))

theorem jobs_backOut : ∀ j ∈ (backOut s .drop).jsc.jobs, j.speculative = true → j.discard = true := by
  intro j hj hs
  rcases (calm_backOut h).jobs j hj with hn | ⟨i, hi, his, hid⟩
  · rw [hs] at hn
    cases hn
  · rw [show (undone s m).jsc.jobs = undoneJobs s.jsc.jobs from undoSpeculation_jobs s m.streams] at hi
    rw [← hid]
    exact discard_undone hi (his.trans hs)

end

theorem contextOf_undone (s : State) {m : Marker} {x : StreamId} (hx : x ∈ m.streams) :
    contextOf (undone s m) x = restored (busy s x) (contextOf s x) := contextOf_undoSpeculation s hx

/-- A HELD copy becomes its stream's context, at once or as its decoding ends; a PENDING request is withdrawn. -/
theorem restored_by_backOut {s : State} {m : Marker} (h : s.maps.marker = some m) {x : StreamId} (hx : x ∈ m.streams) :
    let v := contextOf (backOut s .drop) x
    (∀ k, (contextOf s x).checkpoint = .held k →
      (busy s x = true → v.checkpoint = .restoring k false) ∧
      (busy s x = false → v.checkpoint = .none ∧ v.next = k.next ∧ v.metrics = k.metrics ∧
        (noneUnderWay (backOut s .drop) x → v.warm = k.warm ∧ v.location = .table))) ∧
    ((contextOf s x).checkpoint = .pending →
      v.checkpoint = .none ∧ v.next = (contextOf s x).next ∧ v.metrics = (contextOf s x).metrics) := by
  intro v
  have hc := calm_backOut h
  have hm := hc.contexts x
  have hl := hc.located x
  rw [contextOf_undone s hx] at hm hl
  have hcheck (hp : (restored (busy s x) (contextOf s x)).checkpoint ≠ .pending) :
      v.checkpoint = (restored (busy s x) (contextOf s x)).checkpoint := hm.checkpoint.resolve_right fun k => hp k.1
  refine ⟨fun k hk => ⟨fun hb => ?_, fun hb => ?_⟩, fun hp => ?_⟩
  · have hr : restored (busy s x) (contextOf s x) = { contextOf s x with checkpoint := .restoring k false } := by
      rw [restored, hk, hb]
      rfl
    rw [hr] at hcheck
    exact hcheck nofun
  · have hr : restored (busy s x) (contextOf s x) =
        { next := k.next, metrics := k.metrics, warm := k.warm, location := .table, checkpoint := .none } := by
      rw [restored, hk, hb]
      rfl
    rw [hr] at hcheck hl hm
    refine ⟨hcheck nofun, hm.next, hm.metrics, fun hn => ?_⟩
    rw [show v = _ from hl hn rfl]
    exact ⟨rfl, rfl⟩
  · have hr : restored (busy s x) (contextOf s x) = { contextOf s x with checkpoint := .none } := by
      rw [restored, hp]
    rw [hr] at hcheck hm
    exact ⟨hcheck nofun, hm.next, hm.metrics⟩

end Sys2Proof.Machine

/-! PROOFS. O10: the blocks of the control area (R8, R20, R26 to R29, R35). -/

namespace Sys2Proof.Machine

-- one theorem at a time: elaborated side by side, they would hold more threads than the check allows
set_option Elab.async false

/-- A word that completes no block joins it. -/
theorem wordCounted_within {c : ControlPath} (h : (c.words + 1) % 48 ≠ 0) (w : CellWord) :
    wordCounted c true w = { c with words := c.words + 1, block := c.block ++ [w] } := by
  unfold wordCounted
  rw [if_neg h]
  rfl

/-! ### STREAM records (R22, R28, R29) -/

section

variable {s : State} {i : LaneId} {f : Frame} (h : CompletesBlock s i f) (t : Instant) (w : CellWord)
include h

/-- A block that counts one control error, and nothing else. -/
theorem exec_block_counted {b : ControlBlock} (hb : takeBlock (blockCounted s t i) b = countControlError (blockCounted s t i)) :
    exec (.cellWord t i .control w b) s = .next (countControlError (blockCounted s t i)) :=
  exec_block_eq h hb (settled_errorCounted (settled_blockCounted h.1 t i))

/-- A block that has no effect. -/
theorem exec_block_unmoved {b : ControlBlock} (hb : takeBlock (blockCounted s t i) b = blockCounted s t i) :
    exec (.cellWord t i .control w b) s = .next (blockCounted s t i) := exec_block_eq h hb (settled_blockCounted h.1 t i)

theorem exec_streamRecord_taken {tag : ChangeCount} {raw : RawEntry} (hl : entryInLimits raw = true) (hs : s.ftr.sync = .locked)
    (ha : s.maps.current.state = .assembling) (ht : s.maps.current.count = tag)
    (ho : ∀ x ∈ s.maps.current.entries, x.id ≠ (entryOfRaw raw true).id → overlaps x (entryOfRaw raw true) = false) :
    let e := entryOfRaw raw true
    let m := s.maps.current
    ∃ u, exec (.cellWord t i .control w (.stream tag raw)) s = .next u ∧ u.maps.current.count = m.count ∧
      u.maps.current.entryCount = m.entryCount ∧
      (∀ y, u.maps.current.entryOf y = if y = e.id then some e else m.entryOf y) ∧
      (if m.entryCount ≤ u.maps.current.entries.length then u.maps.current.state = .complete ∧ u.maps.current.source = .own
        else u.maps.current.state = .assembling) ∧
      Within [.time, .lanes, .tracker, .mapUnit, .scheduler, .store, .queue, .counters, .cursors, .table, .claims] s u := by
  intro e m
  have hclaims := within_settleClaims (mapStreamRecord (blockCounted s t i) tag raw)
  obtain ⟨hcount, hentryCount, hentries, hstate⟩ := mapStreamRecord_taken (s := blockCounted s t i) ha ht ho
  refine ⟨settleClaims (mapStreamRecord (blockCounted s t i) tag raw), ?_, ?_⟩
  · rw [exec_block h, takeBlock_streamLocked (s := blockCounted s t i) hl hs]
  · rw [hclaims.maps]
    exact ⟨hcount, hentryCount, hentries, hstate,
      ((within_blockCounted s t i).mono.trans (within_mapStreamRecord _ tag raw).mono).trans hclaims.mono⟩

end

/-! ### FRAME records (R26, R27, R35) -/

/-- What a FRAME record of the local count leaves alone, and the tracker's part in it. -/
def RecordKept (s : State) (t : Instant) (i : LaneId) (f : Frame) (u : State) : Prop :=
  u.ftr = { (blockCounted s t i).ftr with frame := some { f with recordSeen := true } } ∧
    Within [.time, .lanes, .tracker, .mapUnit, .scheduler, .store, .queue, .counters, .cursors, .table, .claims] s u

section

variable {s : State} {i : LaneId} {f : Frame} {r : FrameRecord} (t : Instant)

/-- In LOCKED a FRAME record of the local count is the map unit's alone. -/
theorem exec_frameRecord_local (h : CompletesBlock s i f) (hseen : f.recordSeen = false) (hv : frameRecordValid r = true)
    (hl : s.ftr.sync = .locked) (he : s.ftr.expected = some r.ensemble) (hc : r.count = s.ftr.count) (w : CellWord) :
    exec (.cellWord t i .control w (.frame r)) s = .next (settleClaims (mapFrameRecord (recordMet s t i f) r)) := by
  rw [exec_frameRecord h hseen hv, trackRecord_locked (s := recordMet s t i f) hl he,
    if_pos (show r.count = (recordMet s t i f).ftr.count from hc)]
  rw [show passToMap (recordMet s t i f) r = _ from if_pos he]

theorem recordKept_frameRecord (s : State) (i : LaneId) (f : Frame) (r : FrameRecord) :
    RecordKept s t i f (settleClaims (mapFrameRecord (recordMet s t i f) r)) := by
  have hmap := within_mapFrameRecord (recordMet s t i f) r
  have hclaims := within_settleClaims (mapFrameRecord (recordMet s t i f) r)
  refine ⟨hclaims.ftr.trans hmap.ftr, ?_⟩
  exact (((within_blockCounted s t i).mono.trans (within_setFrame _ _).mono).trans hmap.mono).trans hclaims.mono

/-- The first record of an ensemble opens the current map (R26). -/
theorem currentOpened (hm : s.maps.current.state = .none) (hn : s.maps.next.state = .none) (hp : r.pending = false) :
    let u := settleClaims (mapFrameRecord (recordMet s t i f) r)
    u.maps.current.state = (if r.entryCount = 0 then .complete else .assembling) ∧ u.maps.current.count = r.changeCount ∧
      u.maps.current.entryCount = r.entryCount ∧ u.maps.current.source = .own ∧ u.maps.current.entries = [] ∧
      u.maps.next.state = .none := by
  intro u
  let v := recordMet s t i f
  let m := openedMap r.changeCount r.entryCount 0 v.maps.current.deferred
  have hst : MapsStand (setCurrent v m) (settleMaps (setCurrent v m)) := stand_settleMaps _
  have hnext : (settleMaps (setCurrent v m)).maps.next.state = .none := hst.nextState.trans hn
  have hrun : mapFrameRecord v r = settleMaps (setCurrent v m) :=
    (mapFrameRecord_eq (weighRecord_unannounced (s := v) hn) (takeCurrentFields_unheld (s := v) hm)).trans
      (takePendingFields_absent hnext hp)
  have hu : u.maps = (settleMaps (setCurrent v m)).maps := (within_settleClaims _).maps.trans (congrArg State.maps hrun)
  obtain ⟨hstate, hcount, hentryCount, -, hsource, hentries⟩ := openedMap_fields r.changeCount r.entryCount 0 v.maps.current.deferred
  rw [hu]
  exact ⟨hst.state.trans hstate, hst.count.trans hcount, hst.entryCount.trans hentryCount, hst.source.trans hsource,
    hst.entries.trans hentries, hnext⟩

/-- The first record that announces a next map opens it (R27). -/
theorem nextOpened (hm : s.maps.current.state ≠ .none) (hc : r.changeCount = s.maps.current.count)
    (he : r.entryCount = s.maps.current.entryCount) (hn : s.maps.next.state = .none) (hp : r.pending = true) :
    let u := settleClaims (mapFrameRecord (recordMet s t i f) r)
    u.maps.next.state = (if r.nextEntryCount = 0 then .complete else .assembling) ∧ u.maps.next.count = r.nextChangeCount ∧
      u.maps.next.entryCount = r.nextEntryCount ∧ u.maps.next.changeFrame = r.changeFrame ∧ u.maps.next.source = .own ∧
      u.maps.next.entries = [] ∧ u.maps.current.state = s.maps.current.state ∧
      u.maps.current.entries = s.maps.current.entries := by
  intro u
  let v := recordMet s t i f
  let m := openedMap r.nextChangeCount r.nextEntryCount r.changeFrame none
  have hst : MapsStand (setNext v m) (settleMaps (setNext v m)) := stand_settleMaps _
  have hrun : mapFrameRecord v r = settleMaps (setNext v m) :=
    (mapFrameRecord_eq (weighRecord_unannounced (s := v) hn) (takeCurrentFields_held (s := v) hm hc he)).trans
      (takePendingFields_opens (s := v) hn hp)
  have hu : u.maps = (settleMaps (setNext v m)).maps := (within_settleClaims _).maps.trans (congrArg State.maps hrun)
  obtain ⟨hstate, hcount, hentryCount, hframe, hsource, hentries⟩ :=
    openedMap_fields r.nextChangeCount r.nextEntryCount r.changeFrame none
  rw [hu]
  exact ⟨hst.nextState.trans hstate, hst.nextCount.trans hcount, hst.nextEntryCount.trans hentryCount,
    hst.nextChangeFrame.trans hframe, hst.nextSource.trans hsource, hst.nextEntries.trans hentries, hst.state, hst.entries⟩

theorem undone_current (s : State) (m : Marker) : (undone s m).maps.current = s.maps.current :=
  (congrArg MapUnit.current (within_undoSpeculation s m.streams).maps :)

section

variable (hn : s.maps.next.state ≠ .none) (ha : atOrAfter r.count s.maps.next.changeFrame = true) (hp : r.pending = false)
include hn ha hp

theorem mapFrameRecord_confirms (hc : r.changeCount = s.maps.next.count) (he : r.entryCount = s.maps.next.entryCount) :
    mapFrameRecord s r = confirm s := by
  have hst := stand_confirm s
  have hheld : takeCurrentFields (confirm s) r = (confirm s, true) :=
    takeCurrentFields_held (fun k => hn (hst.state.symm.trans k)) (hc.trans hst.count.symm) (he.trans hst.entryCount.symm)
  exact (mapFrameRecord_eq (weighRecord_confirms hn ha hc) hheld).trans
    (takePendingFields_absent hst.nextState hp)

theorem mapFrameRecord_backsOut {m : Marker} (hk : s.maps.marker = some m) (hne : r.changeCount ≠ s.maps.next.count)
    (hm : s.maps.current.state ≠ .none) (hc : r.changeCount = s.maps.current.count)
    (he : r.entryCount = s.maps.current.entryCount) : mapFrameRecord s r = backOut s .drop := by
  have hst := stand_backOut hk
  have hundone := undone_current s m
  have hheld : takeCurrentFields (backOut s .drop) r = (backOut s .drop, true) := by
    refine takeCurrentFields_held (fun k => hm ?_) ?_ ?_
    · rw [← hundone]
      exact hst.state.symm.trans k
    · rw [hc, ← hundone]
      exact hst.count.symm
    · rw [he, ← hundone]
      exact hst.entryCount.symm
  exact (mapFrameRecord_eq (weighRecord_backsOut hn ha hne hp) hheld).trans
    (takePendingFields_absent (calm_backOut hk).next hp)

end

end

/-- Settles O10. -/
theorem controlWordsFormBlocks : Obligations.ControlWordsFormBlocks := by
  unfold Obligations.ControlWordsFormBlocks
  refine ⟨?_, ?_, ?_⟩
  · intro s t i w b f hs ha hi hf hr hp hw counted
    refine ⟨fun he => ?_, fun he h48 => ?_, fun he h48 hl hb => ?_⟩
    · rw [exec_controlWord_counted hs ha hi hf hr hp hw (.inl he), he]
      rfl
    · rw [exec_controlWord_counted hs ha hi hf hr hp hw (.inr h48), he, Bool.not_false, wordCounted_within h48]
      rfl
    · have hblock : CompletesBlock s i f := ⟨hs, ha, hi, hf, hr, he, hp, hw, h48, hl⟩
      refine exec_block_counted hblock t w ?_
      rcases hb with rfl | rfl
      · rfl
      · rfl
  · intro s t i w f tag raw h c counted e m
    refine ⟨fun hl => exec_block_counted h t w (if_pos (by rw [hl]; rfl)),
      fun hl hs => exec_block_unmoved h t w (takeBlock_streamProvisional (s := blockCounted s t i) hl hs tag), fun hl hs => ?_⟩
    have htake := takeBlock_streamLocked (s := blockCounted s t i) hl hs tag
    refine ⟨fun hc hn => ?_, fun hm hcount => ?_, fun hm hcount ho => ?_, fun hm hcount ho => ?_⟩
    · exact exec_block_unmoved h t w (htake.trans (mapStreamRecord_neither (s := blockCounted s t i) hc hn raw))
    · have hrec := mapStreamRecord_unmoved (s := blockCounted s t i) (fun k => nomatch hm.symm.trans k) hcount
        (applyRecord_complete hm e)
      cases hany : (m.entryOf e.id).any (sameEntry · e) with
      | true => exact exec_block_unmoved h t w (htake.trans (hrec.trans (if_neg (by rw [hany]; decide))))
      | false => exact exec_block_counted h t w (htake.trans (hrec.trans (if_pos (by rw [hany]; rfl))))
    · exact exec_block_counted h t w (htake.trans (mapStreamRecord_unmoved (s := blockCounted s t i)
        (fun k => nomatch hm.symm.trans k) hcount (applyRecord_overlap hm ho)))
    · exact exec_streamRecord_taken h t w hl hs hm hcount ho
  · intro s t i w f r h hseen hv hl he hc c m n kept
    let u := settleClaims (mapFrameRecord (recordMet s t i f) r)
    have hrun : exec c s = .next u := exec_frameRecord_local t h hseen hv hl he hc w
    have hkept : kept u := recordKept_frameRecord t s i f r
    have hclaims := within_settleClaims (mapFrameRecord (recordMet s t i f) r)
    refine ⟨fun hm hn hp => ⟨u, hrun, hkept, currentOpened t hm hn hp⟩,
      fun hm hcc hec hn hp => ⟨u, hrun, hkept, nextOpened t hm hcc hec hn hp⟩,
      fun hn ha hcc hec hp => ⟨u, hrun, hkept, ?_⟩, fun hn ha hne hm hcc hec hp hmk => ⟨u, hrun, hkept, ?_⟩⟩
    · have hconf := mapFrameRecord_confirms (s := recordMet s t i f) hn ha hp hcc hec
      have hst := stand_confirm (recordMet s t i f)
      rw [hclaims.maps, hclaims.records, hclaims.jobs, hconf]
      exact ⟨hst.state, hst.count, hst.entryCount, hst.source, hst.entries, hst.nextState, marker_confirm _, hst.2.2,
        noneSpeculative_confirm _, jobs_confirm _⟩
    · obtain ⟨mk, hmk⟩ := Option.isSome_iff_exists.1 hmk
      have hk : (recordMet s t i f).maps.marker = some mk := hmk
      have hback := mapFrameRecord_backsOut (s := recordMet s t i f) hn ha hp hk hne hm hcc hec
      have hst := stand_backOut hk
      have hundone := undone_current (recordMet s t i f) mk
      have hcalm := calm_backOut hk
      rw [hclaims.maps, hclaims.records, hclaims.jobs, hback]
      refine ⟨hcalm.next, hcalm.marker, hst.state.trans (congrArg MuxMap.state hundone),
        hst.entries.trans (congrArg MuxMap.entries hundone), noneSpeculative_backOut hk, jobs_backOut hk,
        fun mk' x hmk' hx => ?_⟩
      obtain rfl : mk = mk' := Option.some.inj (hmk.symm.trans hmk')
      obtain ⟨hheld, hpending⟩ := restored_by_backOut hk hx
      intro under v
      have hv : v = contextOf (backOut (recordMet s t i f) .drop) x :=
        (contextOf_congr hclaims.contexts x).trans (congrArg (contextOf · x) hback)
      rw [hv]
      refine ⟨fun k hck => ?_, hpending⟩
      obtain ⟨hunder, hidle⟩ := hheld k hck
      have hbusy : busy (recordMet s t i f) x = true ↔ under := busy_iff
      exact ⟨fun hb => hunder (hbusy.2 hb), fun hb => hidle (Bool.eq_false_iff.2 fun k => hb (hbusy.1 k))⟩

end Sys2Proof.Machine
